-- ==== Sys2Proof/Word.lean ====
section
/-! DEFINITION. The bit-vector types of the DL7420: bytes, memory words and word addresses. -/

namespace Sys2Proof

/-- One byte of a serial frame (R172). -/
abbrev Byte := BitVec 8

/-- A 16-bit unit of memory (spec/00, Table 0-3). -/
abbrev Word := BitVec 16

/-- A 20-bit word address, 0x00000 to 0xFFFFF (spec/00, Table 0-3). -/
abbrev Addr := BitVec 20

end Sys2Proof
end

