-- ==== Sys2Proof/Syntax.lean ====
section
/-! DEFINITION. The commands of the DL7420: one constructor for each row of spec/opcode_table.json.
A frame command carries the operand bytes the host sends (R173) in the order of Table 10-3, and which part of the
frame the command stands for. -/

namespace Sys2Proof

/-- Which part of a serial frame a command stands for (R172, R173). DESIGN CHOICE, log entry 7. -/
inductive FrameAct where
  /-- The whole frame, with no other event between the fall and the rise of CFG_CS#: the command byte, the operand
  bytes listed, and `extra` bytes more, clocked with CFG_DI low. -/
  | whole (extra : Nat)
  /-- CFG_CS# falls. -/
  | start
  /-- CFG_CLK rises: one bit is shifted in. -/
  | clockRises
  /-- CFG_CLK falls: one bit is shifted out. -/
  | clockFalls
  /-- Eight periods of CFG_CLK, from the first bit of a byte to the first of the next. -/
  | byte
  /-- CFG_CS# rises and the frame is judged. -/
  | finish
deriving DecidableEq, Repr

/-- The commands the block takes. -/
inductive Instr where
  -- frames of the serial port
  | readStatus (act : FrameAct)
  | readNotice (act : FrameAct)
  | clearNotice (ops : List Byte) (act : FrameAct)
  | setNoticeMask (ops : List Byte) (act : FrameAct)
  | stageRegion (ops : List Byte) (act : FrameAct)
  | commitRegion (ops : List Byte) (act : FrameAct)
  | readRegion (ops : List Byte) (act : FrameAct)
  | enableRegion (ops : List Byte) (act : FrameAct)
  | disableRegion (ops : List Byte) (act : FrameAct)
  | releaseRegion (ops : List Byte) (act : FrameAct)
  | setSense (ops : List Byte) (act : FrameAct)
  | clearTrip (ops : List Byte) (act : FrameAct)
  | clearCounts (ops : List Byte) (act : FrameAct)
  | setThresholds (ops : List Byte) (act : FrameAct)
  | loadLink (ops : List Byte) (act : FrameAct)
  | readLink (ops : List Byte) (act : FrameAct)
  | startDrain (ops : List Byte) (act : FrameAct)
  | startDrainContinue (act : FrameAct)
  | stopDrain (act : FrameAct)
  | flush (act : FrameAct)
  | abortDrain (act : FrameAct)
  | popEvent (act : FrameAct)
  | discardQueue (act : FrameAct)
  | unloadLink (ops : List Byte) (act : FrameAct)
  | arm (act : FrameAct)
  | disarm (act : FrameAct)
  | resume (act : FrameAct)
  | setTimebase (ops : List Byte) (act : FrameAct)
  | setOptions (ops : List Byte) (act : FrameAct)
  | setShadowPointer (ops : List Byte) (act : FrameAct)
  | readShadow (ops : List Byte) (act : FrameAct)
  | reset (act : FrameAct)
  /-- `none`: the command byte was not received in full (R173). -/
  | badCommand (command : Option Byte) (act : FrameAct)
  -- the master bus
  /-- The master asserts MCE# with the strobes MOE# and MWE# as given (`true`: asserted), R26. -/
  | masterCycleArrives (moe mwe : Bool) (addr : Addr) (enables : BitVec 2) (data : Word) (parity : BitVec 2)
  | masterCycleWithdrawn
  | masterCycleEnds
  -- the arbiter
  | writeGrant
  | readGrant
  | primeGrant
  | drainGrant
  -- the memory's SRDY
  | writeCompletion
  | readCompletion (data : Word) (parity : BitVec 2)
  | primeReadCompletion (data : Word) (parity : BitVec 2)
  | drainWriteCompletion
  | recordWriteCompletion
  | padWriteCompletion
  | burstEnd
  -- the system lines
  | snapEdge
  | snapLineFalls
  /-- The levels the SNAP and RST# lines have as the supply comes up (R155, R160). -/
  | powerOnReset (snapHigh rstHigh : Bool)
  | fullReset
  | partialReset
  -- time and internal events
  | baseTick
  | decayTick
  | settleExpiry
  | flushComplete
  | abortCarriedOut
  | lossPlacement
  | tclkPeriod
  | rstLineRises
deriving DecidableEq, Repr

end Sys2Proof
end

