-- ==== Sys2Proof/Decode.lean ====
section
/-! DEFINITION. Reading commands from bits. The rows of spec/opcode_table.json give no bits, so no table word
spells a command; the serial port's own decoding of a frame's bytes (Table 10-3) stands beside it. -/

namespace Sys2Proof

/-- The command a word spells by the bits of spec/opcode_table.json: no row of the table gives bits. -/
def decodeTableWord (_nbits _w : Nat) : Option Instr := none

/-- The command codes of Table 10-3. -/
def knownCodes : List Byte :=
  [0x01, 0x02, 0x03, 0x04, 0x10, 0x11, 0x12, 0x13, 0x14, 0x15, 0x16, 0x17, 0x18, 0x19,
   0x20, 0x21, 0x22, 0x23, 0x24, 0x25, 0x26, 0x27, 0x28, 0x30, 0x31, 0x32, 0x40, 0x41, 0x42, 0x43, 0x4F]

/-- The frame command that the bytes shifted in spell (R172, R173, Table 10-3): the command byte and the
bytes after it. Bytes after a command without operands are ignored (R173); 0x22 with first operand byte 0xFF
is the continue form (R133). -/
def decodeFrame (bytes : List Byte) (act : FrameAct) : Instr :=
  match bytes with
  | [] => .badCommand none act
  | code :: ops =>
    if code = 0x01 then .readStatus act
    else if code = 0x02 then .readNotice act
    else if code = 0x03 then .clearNotice ops act
    else if code = 0x04 then .setNoticeMask ops act
    else if code = 0x10 then .stageRegion ops act
    else if code = 0x11 then .commitRegion ops act
    else if code = 0x12 then .readRegion ops act
    else if code = 0x13 then .enableRegion ops act
    else if code = 0x14 then .disableRegion ops act
    else if code = 0x15 then .releaseRegion ops act
    else if code = 0x16 then .setSense ops act
    else if code = 0x17 then .clearTrip ops act
    else if code = 0x18 then .clearCounts ops act
    else if code = 0x19 then .setThresholds ops act
    else if code = 0x20 then .loadLink ops act
    else if code = 0x21 then .readLink ops act
    else if code = 0x22 then
      if ops.head? = some 0xFF then .startDrainContinue act else .startDrain ops act
    else if code = 0x23 then .stopDrain act
    else if code = 0x24 then .flush act
    else if code = 0x25 then .abortDrain act
    else if code = 0x26 then .popEvent act
    else if code = 0x27 then .discardQueue act
    else if code = 0x28 then .unloadLink ops act
    else if code = 0x30 then .arm act
    else if code = 0x31 then .disarm act
    else if code = 0x32 then .resume act
    else if code = 0x40 then .setTimebase ops act
    else if code = 0x41 then .setOptions ops act
    else if code = 0x42 then .setShadowPointer ops act
    else if code = 0x43 then .readShadow ops act
    else if code = 0x4F then .reset act
    else .badCommand (some code) act

/-- The bytes the host shifts in for a frame command (Table 10-3); none for a command that is no frame. -/
def encodeFrame : Instr → Option (List Byte × FrameAct)
  | .readStatus act => some ([0x01], act)
  | .readNotice act => some ([0x02], act)
  | .clearNotice ops act => some (0x03 :: ops, act)
  | .setNoticeMask ops act => some (0x04 :: ops, act)
  | .stageRegion ops act => some (0x10 :: ops, act)
  | .commitRegion ops act => some (0x11 :: ops, act)
  | .readRegion ops act => some (0x12 :: ops, act)
  | .enableRegion ops act => some (0x13 :: ops, act)
  | .disableRegion ops act => some (0x14 :: ops, act)
  | .releaseRegion ops act => some (0x15 :: ops, act)
  | .setSense ops act => some (0x16 :: ops, act)
  | .clearTrip ops act => some (0x17 :: ops, act)
  | .clearCounts ops act => some (0x18 :: ops, act)
  | .setThresholds ops act => some (0x19 :: ops, act)
  | .loadLink ops act => some (0x20 :: ops, act)
  | .readLink ops act => some (0x21 :: ops, act)
  | .startDrain ops act => some (0x22 :: ops, act)
  | .startDrainContinue act => some ([0x22, 0xFF], act)
  | .stopDrain act => some ([0x23], act)
  | .flush act => some ([0x24], act)
  | .abortDrain act => some ([0x25], act)
  | .popEvent act => some ([0x26], act)
  | .discardQueue act => some ([0x27], act)
  | .unloadLink ops act => some (0x28 :: ops, act)
  | .arm act => some ([0x30], act)
  | .disarm act => some ([0x31], act)
  | .resume act => some ([0x32], act)
  | .setTimebase ops act => some (0x40 :: ops, act)
  | .setOptions ops act => some (0x41 :: ops, act)
  | .setShadowPointer ops act => some (0x42 :: ops, act)
  | .readShadow ops act => some (0x43 :: ops, act)
  | .reset act => some ([0x4F], act)
  | .badCommand command act => some (command.toList, act)
  | .masterCycleArrives _ _ _ _ _ _ => none
  | .masterCycleWithdrawn => none
  | .masterCycleEnds => none
  | .writeGrant => none
  | .readGrant => none
  | .primeGrant => none
  | .drainGrant => none
  | .writeCompletion => none
  | .readCompletion _ _ => none
  | .primeReadCompletion _ _ => none
  | .drainWriteCompletion => none
  | .recordWriteCompletion => none
  | .padWriteCompletion => none
  | .burstEnd => none
  | .snapEdge => none
  | .snapLineFalls => none
  | .powerOnReset _ _ => none
  | .fullReset => none
  | .partialReset => none
  | .baseTick => none
  | .decayTick => none
  | .settleExpiry => none
  | .flushComplete => none
  | .abortCarriedOut => none
  | .lossPlacement => none
  | .tclkPeriod => none
  | .rstLineRises => none

end Sys2Proof
end

