-- ==== Sys2Proof/Config.lean ====
section
/-! DEFINITION. What is fixed for every DL7420: its identification and the capacities of its collections.
The spec leaves no result of a command open, so there is no free value here. -/

namespace Sys2Proof.Config

/-- Identification word returned by READ_STATUS (R178). -/
def identification : Word := 0x7420

/-- Revision byte returned by READ_STATUS (R178). -/
def revision : Byte := 0x10

/-- Record slots of the Event Queue (R112). -/
def queueCapacity : Nat := 64

/-- Entries of the Settle Table (R70). -/
def settleCapacity : Nat := 16

/-- Words of the Shadow Store (R47). -/
def shadowWords : Nat := 4096

/-- Most words one READ_SHADOW frame returns (R65). -/
def readShadowMax : Nat := 64

/-- Words of one event record (R106). -/
def recordWords : Nat := 8

end Sys2Proof.Config
end

