-- ==== Sys2Proof/Machine/State.lean ====
section
/-! DEFINITION. The state of the DL7420, block by block as Table 0-1 of spec/00 lists it, and its values after a
power-on reset. -/

namespace Sys2Proof.Machine

/-! ### Region Table (spec/01) -/

/-- Response to a LOCK or TRIP refusal (Table 1-1, R34). -/
inductive Policy where
  | absorb
  | error
deriving DecidableEq, Repr

/-- Region states (section 1.4). -/
inductive RegionState where
  | free
  | idle
  | held
  | priming
  | live
deriving DecidableEq, Repr

/-- The twelve configuration values of a region or of the staging record (Table 1-1 without the extent, R4). -/
structure RegionConfig where
  base : Addr
  limit : Addr
  watch : Bool
  verify : Bool
  lock : Bool
  policy : Policy
  riseMask : Word
  fallMask : Word
  settleTime : Byte
  weight : Byte
  alertThreshold : Word
  tripThreshold : Word
deriving DecidableEq, Repr

/-- Every value zero: a FREE record (R24) and the staging record after a full reset (R4). -/
def RegionConfig.zero : RegionConfig where
  base := 0
  limit := 0
  watch := false
  verify := false
  lock := false
  policy := .absorb
  riseMask := 0
  fallMask := 0
  settleTime := 0
  weight := 0
  alertThreshold := 0
  tripThreshold := 0

/-- A region record: configuration (Table 1-1) and runtime fields (Table 1-2). The shadow extent stands in the
Shadow Allocation List, which R49 names as its source. -/
structure Region where
  state : RegionState
  cfg : RegionConfig
  primeCursor : Nat
  enginePrimed : Word
  trafficPrimed : Word
  accumulator : Word
  alertFlag : Bool
  tripLatch : Bool
  refusalReported : Bool
  changesRecorded : Word
  bouncesSuppressed : Word
  refusals : Word
  divergences : Word
deriving DecidableEq, Repr

/-- The runtime fields R9 gives a committed region, in state `st` with configuration `cfg`. -/
def Region.fresh (st : RegionState) (cfg : RegionConfig) : Region where
  state := st
  cfg := cfg
  primeCursor := 0
  enginePrimed := 0
  trafficPrimed := 0
  accumulator := 0
  alertFlag := false
  tripLatch := false
  refusalReported := false
  changesRecorded := 0
  bouncesSuppressed := 0
  refusals := 0
  divergences := 0

/-- A FREE record: every field zero (R24). -/
def Region.freed : Region := Region.fresh .free .zero

/-! ### Cycle Path and arbiter (spec/02) -/

/-- Where a master cycle stands: waiting for its grant, forwarded to memory, or completed towards the master
and not yet ended by it (R26). -/
inductive CyclePhase where
  | waiting
  | forwarded
  | completed
deriving DecidableEq, Repr

/-- The master cycle in progress (R26). Bit 1 of `enables` and `parity` is the upper byte's. -/
structure MasterCycle where
  write : Bool
  addr : Addr
  enables : BitVec 2
  data : Word
  parity : BitVec 2
  phase : CyclePhase
deriving DecidableEq, Repr

/-- The memory cycle driven on SA, SD, SBE, SP with SWE# (`write`) or SOE#, until its SRDY (R33, R39). A read
drives no data: its `data` and `parity` are zero. -/
structure MemCycle where
  write : Bool
  addr : Addr
  enables : BitVec 2
  data : Word
  parity : BitVec 2
deriving DecidableEq, Repr

/-- MD and MP as the part drives them to the master (R39). -/
structure BusData where
  data : Word
  parity : BitVec 2
deriving DecidableEq, Repr

/-- State of the Cycle Path (Table 0-1). -/
structure CyclePath where
  cycle : Option MasterCycle
  mwait : Bool
  mberr : Bool
  readData : Option BusData
  memCycle : Option MemCycle
  clashReported : Bool
deriving DecidableEq, Repr

/-- Claimants of the memory port (Table 2-1). -/
inductive Claimant where
  | master
  | prime
  | drain
deriving DecidableEq, Repr

/-- The background owners R28 distinguishes. -/
inductive Background where
  | prime
  | drain
deriving DecidableEq, Repr

/-- The arbiter (R28). `award` is the model's own: the claimant R29 has decided for whose grant row is still to
be taken (DESIGN CHOICE, log entry 3). -/
structure Arbiter where
  owner : Option Claimant
  award : Option Claimant
  burstCount : Nat
  lastBackground : Background
deriving DecidableEq, Repr

/-! ### Shadow Store and Prime Engine (spec/03) -/

/-- An entry of the Shadow Allocation List (R49). -/
structure Extent where
  first : Nat
  length : Nat
  region : Fin 32
deriving DecidableEq, Repr

/-- A prime read in flight (R56). -/
structure PrimeRead where
  region : Fin 32
  addr : Addr
  cancelled : Bool
deriving DecidableEq, Repr

/-- The Prime Engine (R56): served region, read in flight, and its claim at the arbiter. -/
structure PrimeEngine where
  served : Option (Fin 32)
  read : Option PrimeRead
  claim : Bool
deriving DecidableEq, Repr

/-! ### Change Detector (spec/04) -/

/-- An entry of the Settle Table (R70). -/
structure SettleEntry where
  region : Fin 32
  addr : Addr
  confirmed : Word
  candidate : Word
  remaining : Nat
deriving DecidableEq, Repr

/-! ### Event records and the Event Queue (spec/06) -/

/-- Record kinds (Table 6-2). -/
inductive Kind where
  | change
  | diverge
  | refuse
  | alert
  | trip
  | parity
  | loss
  | snap
  | primed
deriving DecidableEq, Repr

/-- Direction of the cycle a record speaks of (R105). -/
inductive Direction where
  | write
  | read
deriving DecidableEq, Repr

/-- What a producer decides of a record (R105): all but time stamp, sequence number and check word. -/
structure Report where
  kind : Kind
  settled : Bool := false
  unsettled : Bool := false
  direction : Direction := .write
  region : Option (Fin 32) := none
  addr : Option Addr := none
  valueA : Word
  valueB : Word
deriving DecidableEq, Repr

/-- An event record (R105), every field fixed at its creation. -/
structure Record where
  report : Report
  stamp : Word
  seq : Word
  check : Word
deriving DecidableEq, Repr

/-- The Event Queue (R109, R112, R114, R117); `records` holds the head first. -/
structure EventQueue where
  records : List Record
  nextSeq : Word
  lossCount : Word
  firstLost : Word
  highMark : Nat
deriving DecidableEq, Repr

/-! ### Drain chains (spec/07) -/

/-- Link states (R126). -/
inductive LinkState where
  | empty
  | ready
  | active
  | done
deriving DecidableEq, Repr

/-- Close reasons (Table 7-1). -/
inductive CloseReason where
  | full
  | flush
  | abort
  | reset
deriving DecidableEq, Repr

/-- A link of the Chain Table (Table 7-1). -/
structure Link where
  base : Addr
  capacity : Word
  next : Fin 8
  endOfChain : Bool
  notify : Bool
  state : LinkState
  fill : Nat
  closeReason : Option CloseReason
deriving DecidableEq, Repr

/-- A link never loaded since a full reset (R125). -/
def Link.unloaded : Link where
  base := 0
  capacity := 0
  next := 0
  endOfChain := false
  notify := false
  state := .empty
  fill := 0
  closeReason := none

/-- Drain states (Table 7-4). -/
inductive DrainState where
  | stopped
  | running
  | starved
  | ended
deriving DecidableEq, Repr

/-- Origins of a flush mark (R142). -/
inductive MarkOrigin where
  | flush
  | snap
deriving DecidableEq, Repr

/-- A flush mark (R142). -/
structure FlushMark where
  remaining : Nat
  origin : MarkOrigin
deriving DecidableEq, Repr

/-- The Chain Table and the Drain Engine (R132). `recordInFlight` counts the words of the head record whose
writes have completed, `padInFlight` the pad words written of the pad run in flight. -/
structure Drain where
  links : Vector Link 8
  state : DrainState
  current : Option (Fin 8)
  pointer : Fin 8
  mark : Option FlushMark
  recordInFlight : Option Nat
  padInFlight : Option Nat
  abortPending : Bool
deriving DecidableEq, Repr

/-! ### Monitor Control (spec/08) -/

/-- Monitor states (R149). -/
inductive MonitorState where
  | standby
  | run
  | freezing
  | frozen
deriving DecidableEq, Repr

/-- Reset causes (R161). -/
inductive ResetCause where
  | power
  | command
  | lineFull
  | linePartial
deriving DecidableEq, Repr

/-- Monitor Control: monitor state, the level last seen on SNAP (R155) and on RST# (R160), reset cause. -/
structure Monitor where
  state : MonitorState
  snapHigh : Bool
  rstHigh : Bool
  cause : ResetCause
deriving DecidableEq, Repr

/-! ### Timebase (spec/09) -/

/-- The Timebase (R165). -/
structure Timebase where
  divisor : Nat
  count : Nat
  stamp : Word
  decayDivider : Nat
  countdown : Nat
  decayStep : Byte
deriving DecidableEq, Repr

/-- The values of Table 9-3. -/
def Timebase.afterReset : Timebase where
  divisor := 1000
  count := 0
  stamp := 0
  decayDivider := 16
  countdown := 16
  decayStep := 1

/-! ### Configuration Port and Notice Unit (spec/10) -/

/-- Result codes (Table 10-2). -/
inductive ResultCode where
  | ok
  | busy
  | badIndex
  | badState
  | badRange
  | overlap
  | noShadow
  | snapActive
  | badCommand
  | shortFrame
deriving DecidableEq, Repr

/-- SNAP completeness (R180). -/
inductive Completeness where
  | none
  | complete
  | incomplete
deriving DecidableEq, Repr

/-- What a frame fixes when its last operand byte has been received (R120, R173, R181). -/
inductive Latch where
  /-- Nothing is fixed before the rise of CFG_CS#. -/
  | nothing
  /-- A read command judged as refused with this code. -/
  | refused (result : ResultCode)
  /-- POP_EVENT's head record, or none with the queue empty. -/
  | head (record : Option Record)
  /-- READ_NOTICE's flags, last-notified link and SNAP completeness. -/
  | notices (flags : BitVec 11) (lastNotified : Option (Fin 8)) (completeness : Completeness)
deriving DecidableEq, Repr

/-- A frame being received (Table 0-1): its command byte (none while incomplete), the bytes received in full after
it, what they fixed, how many units of response data have been begun, and the bytes of the present unit not yet
begun. -/
structure Frame where
  command : Option Byte
  ops : List Byte
  latch : Latch
  units : Nat
  data : List Byte
deriving DecidableEq, Repr

/-- The Configuration Port: whether CFG_CS# is low (`selected`), the frame in progress, whether CFG_CLK is high, the
bits of the present byte shifted in, the byte being shifted out, the bytes shifted out whole since CFG_CS# last fell,
the last result code, and the options it holds (R172, R179; the high mark is the Event Queue's). CFG_CS# low without a
frame is the rest of a frame that a full reset has ended (R174). -/
structure Port where
  selected : Bool
  frame : Option Frame
  clock : Bool
  bits : Nat
  out : Byte
  sent : List Byte
  lastResult : ResultCode
  parityCheck : Bool
  autoclear : Bool
  rstPartial : Bool
  burstLimit : Nat
deriving DecidableEq, Repr

/-- The notices (Table 10-8). -/
inductive Notice where
  | linkDone
  | chainEnded
  | starved
  | queueHigh
  | loss
  | alert
  | trip
  | snapDone
  | primed
  | parity
  | clash
deriving DecidableEq, Repr

/-- The Notice Unit (R180, R183); bits of `flags` and `mask` are the positions of Table 10-8. -/
structure Notices where
  flags : BitVec 11
  mask : BitVec 11
  lastNotified : Option (Fin 8)
  completeness : Completeness
deriving DecidableEq, Repr

/-! ### The whole block -/

/-- The state of the block, and the queue of commands waiting for it, first in first out. `shadow` lists the
valid shadow words (index, value) in ascending order of index: an index not listed is an invalid word, whose
value is 0x0000 (R47). `alloc` is the Shadow Allocation List in ascending order of first index (R49), `settle`
the Settle Table in creation order (R70). -/
structure State where
  path : CyclePath
  arb : Arbiter
  regions : Vector Region 32
  staging : RegionConfig
  shadow : List (Nat × Word)
  alloc : List Extent
  shadowPointer : BitVec 12
  prime : PrimeEngine
  settle : List SettleEntry
  queue : EventQueue
  drain : Drain
  monitor : Monitor
  time : Timebase
  port : Port
  notices : Notices
  pending : List Instr
deriving DecidableEq, Repr

/-- Reasons the block could stop with a fault: there is none. Every rule of the spec gives its event a next
state, so no command faults (log entry 2). -/
inductive Fault where
deriving DecidableEq, Repr

/-- Reasons a command could be refused by the model. -/
inductive Refusal where
  /-- Raised by an arm of `exec` whose command has no meaning yet, naming its row. Safe: the model stops where
  the part goes on. No arm raises it: every row has its meaning. -/
  | notModelled (mnemonic : String)
deriving DecidableEq, Repr

/-- The block right after a power-on reset (Table 8-4, Table 9-3, Table 10-9). The levels of SNAP (low), RST#
(high) and the idle bus and port lines are DESIGN CHOICE, log entry 9. -/
def State.reset : State where
  path := {
    cycle := none
    mwait := false
    mberr := false
    readData := none
    memCycle := none
    clashReported := false }
  arb := {
    owner := none
    award := none
    burstCount := 0
    lastBackground := .drain }
  regions := Vector.replicate 32 Region.freed
  staging := .zero
  shadow := []
  alloc := []
  shadowPointer := 0
  prime := { served := none, read := none, claim := false }
  settle := []
  queue := { records := [], nextSeq := 0, lossCount := 0, firstLost := 0, highMark := 48 }
  drain := {
    links := Vector.replicate 8 Link.unloaded
    state := .stopped
    current := none
    pointer := 0
    mark := none
    recordInFlight := none
    padInFlight := none
    abortPending := false }
  monitor := { state := .standby, snapHigh := false, rstHigh := true, cause := .power }
  time := .afterReset
  port := {
    selected := false
    frame := none
    clock := false
    bits := 0
    out := 0
    sent := []
    lastResult := .ok
    parityCheck := true
    autoclear := false
    rstPartial := false
    burstLimit := 4 }
  notices := { flags := 0, mask := 0, lastNotified := none, completeness := .none }
  pending := []

end Sys2Proof.Machine
end

