-- ==== Sys2Proof/Machine/Operands.lean ====
section
/-! DEFINITION. Operand bytes and response bytes of the serial port (section 10.3): multi-byte values travel upper
byte first, and each coded field has the code its table gives. -/

namespace Sys2Proof.Machine

/-! ### Operands -/

/-- A two-byte value, upper byte first (section 10.3). -/
def wordOf (hi lo : Byte) : Word := hi ++ lo

/-- A three-byte value as received, 24 bits (section 10.3). -/
def value24 (b2 b1 b0 : Byte) : BitVec 24 := b2 ++ b1 ++ b0

/-- A region index operand: 0 to 31, else out of range (R6, R10 and the other region commands). -/
def regionIndex (b : Byte) : Option (Fin 32) :=
  if h : b.toNat < 32 then some ⟨b.toNat, h⟩ else none

/-- A link index operand: 0 to 7, else out of range (R127, R130, R131, R133). -/
def linkIndex (b : Byte) : Option (Fin 8) :=
  if h : b.toNat < 8 then some ⟨b.toNat, h⟩ else none

/-- The policy bit of the functions byte (Table 10-3 note 1). -/
def policyOf (errorBit : Bool) : Policy := if errorBit then .error else .absorb

/-- The operand bytes of STAGE_REGION (Table 10-3): base and limit keep their low 20 bits (R4), bits 7 to 4 of
the functions byte are ignored. -/
def stagedConfig : List Byte → Option RegionConfig
  | b2 :: b1 :: b0 :: l2 :: l1 :: l0 :: functions :: r1 :: r0 :: f1 :: f0 :: settle :: weight ::
      a1 :: a0 :: t1 :: t0 :: _ =>
    some {
      base := (value24 b2 b1 b0).setWidth 20
      limit := (value24 l2 l1 l0).setWidth 20
      watch := functions.getLsbD 0
      verify := functions.getLsbD 1
      lock := functions.getLsbD 2
      policy := policyOf (functions.getLsbD 3)
      riseMask := wordOf r1 r0
      fallMask := wordOf f1 f0
      settleTime := settle
      weight := weight
      alertThreshold := wordOf a1 a0
      tripThreshold := wordOf t1 t0 }
  | _ => none

/-- The notice bits operand: bits 15 to 11 are ignored (Table 10-3 note 3). -/
def noticeBits (hi lo : Byte) : BitVec 11 := (wordOf hi lo).setWidth 11

/-! ### Codes -/

/-- Table 10-2. -/
def ResultCode.code : ResultCode → Byte
  | .ok => 0
  | .busy => 1
  | .badIndex => 2
  | .badState => 3
  | .badRange => 4
  | .overlap => 5
  | .noShadow => 6
  | .snapActive => 7
  | .badCommand => 8
  | .shortFrame => 9

/-- Table 10-1, bits 6-5. -/
def MonitorState.code : MonitorState → Byte
  | .standby => 0
  | .run => 1
  | .freezing => 2
  | .frozen => 3

/-- Table 10-1, bits 4-3. -/
def DrainState.code : DrainState → Byte
  | .stopped => 0
  | .running => 1
  | .starved => 2
  | .ended => 3

/-- Table 10-4, byte 5. -/
def ResetCause.code : ResetCause → Byte
  | .power => 0
  | .command => 1
  | .lineFull => 2
  | .linePartial => 3

/-- Table 10-5, byte 2. -/
def RegionState.code : RegionState → Byte
  | .free => 0
  | .idle => 1
  | .held => 2
  | .priming => 3
  | .live => 4

/-- Table 10-6, byte 2. -/
def LinkState.code : LinkState → Byte
  | .empty => 0
  | .ready => 1
  | .active => 2
  | .done => 3

/-- Table 10-6, byte 3. -/
def closeReasonCode : Option CloseReason → Byte
  | none => 0
  | some .full => 1
  | some .flush => 2
  | some .abort => 3
  | some .reset => 4

/-- Table 10-7, byte 5. -/
def Completeness.code : Completeness → Byte
  | .none => 0
  | .complete => 1
  | .incomplete => 2

/-- Record kind codes (Table 6-2). -/
def Kind.code : Kind → Word
  | .change => 1
  | .diverge => 2
  | .refuse => 3
  | .alert => 4
  | .trip => 5
  | .parity => 6
  | .loss => 7
  | .snap => 8
  | .primed => 9

/-- A link index in a response: 0 to 7, or 0xFF for none (Tables 10-4, 10-7). -/
def linkCode : Option (Fin 8) → Byte
  | none => 0xFF
  | some i => BitVec.ofNat 8 i.val

/-! ### Response bytes -/

/-- A bit at position `n` of a byte. -/
def bitAt (b : Bool) (n : Nat) : Byte := if b then 1 <<< n else 0

/-- The two bytes of a word, upper byte first. -/
def wordBytes (w : Word) : List Byte := [w.extractLsb' 8 8, w.extractLsb' 0 8]

/-- The three bytes of a word address, upper four bits 0. -/
def addrBytes (a : Addr) : List Byte :=
  let v : BitVec 24 := a.setWidth 24
  [v.extractLsb' 16 8, v.extractLsb' 8 8, v.extractLsb' 0 8]

/-- The two bytes of a count of at most 65535. -/
def countBytes (n : Nat) : List Byte := wordBytes (BitVec.ofNat 16 n)

/-- The functions byte of READ_REGION: as in STAGE_REGION, bit 7 when the extent is present (Table 10-5). -/
def functionsByte (c : RegionConfig) (extentPresent : Bool) : Byte :=
  bitAt c.watch 0 ||| bitAt c.verify 1 ||| bitAt c.lock 2 ||| bitAt (c.policy == .error) 3 |||
    bitAt extentPresent 7

/-- The 37 bytes of Table 10-5 for a record with the extent's first index given. -/
def regionBytes (r : Region) (extent : Option Nat) : List Byte :=
  [r.state.code] ++ addrBytes r.cfg.base ++ addrBytes r.cfg.limit ++
  [functionsByte r.cfg extent.isSome] ++ wordBytes r.cfg.riseMask ++ wordBytes r.cfg.fallMask ++
  [r.cfg.settleTime, r.cfg.weight] ++ wordBytes r.cfg.alertThreshold ++ wordBytes r.cfg.tripThreshold ++
  countBytes (extent.getD 0) ++ countBytes r.primeCursor ++
  wordBytes r.enginePrimed ++ wordBytes r.trafficPrimed ++ wordBytes r.accumulator ++
  [bitAt r.alertFlag 0 ||| bitAt r.tripLatch 1 ||| bitAt r.refusalReported 2] ++
  wordBytes r.changesRecorded ++ wordBytes r.bouncesSuppressed ++
  wordBytes r.refusals ++ wordBytes r.divergences

/-- The 11 bytes of Table 10-6. -/
def linkBytes (l : Link) : List Byte :=
  [l.state.code, closeReasonCode l.closeReason] ++ addrBytes l.base ++ wordBytes l.capacity ++
  [BitVec.ofNat 8 l.next.val, bitAt l.endOfChain 0 ||| bitAt l.notify 1] ++ countBytes l.fill

/-! ### Bus data -/

/-- The data lines with the bytes not enabled as zero (R35, R43). -/
def enabledData (enables : BitVec 2) (d : Word) : Word :=
  (if enables.getLsbD 1 then d &&& 0xFF00 else 0) ||| (if enables.getLsbD 0 then d &&& 0x00FF else 0)

/-- The merged value of R38: each enabled byte from the write, the others from the shadow. -/
def mergeBytes (enables : BitVec 2) (old new : Word) : Word :=
  (if enables.getLsbD 1 then new &&& 0xFF00 else old &&& 0xFF00) |||
    (if enables.getLsbD 0 then new &&& 0x00FF else old &&& 0x00FF)

/-- Whether a byte holds an odd number of ones. -/
def oddOnes (b : Byte) : Bool :=
  (List.range 8).foldl (fun acc i => acc != b.getLsbD i) false

/-- Odd parity per byte: the line that makes byte and line together hold an odd number of ones. -/
def parityLines (d : Word) : BitVec 2 :=
  BitVec.ofBool (!oddOnes (d.extractLsb' 8 8)) ++ BitVec.ofBool (!oddOnes (d.extractLsb' 0 8))

/-- Whether some enabled byte has even parity with its line (R41, R42). -/
def parityError (enables : BitVec 2) (d : Word) (lines : BitVec 2) : Bool :=
  (enables.getLsbD 1 && (oddOnes (d.extractLsb' 8 8) == lines.getLsbD 1)) ||
    (enables.getLsbD 0 && (oddOnes (d.extractLsb' 0 8) == lines.getLsbD 0))

/-! ### Records -/

/-- Word 0 of the record layout (Table 6-1). -/
def Report.word0 (r : Report) : Word :=
  (r.kind.code <<< 12) |||
  (match r.region with
    | none => 0
    | some i => 0x0800 ||| (BitVec.ofNat 16 i.val <<< 6)) |||
  (if r.settled then 0x0020 else 0) ||| (if r.unsettled then 0x0010 else 0) |||
  (if r.direction = .read then 0x0008 else 0)

/-- Word 1: address present and address bits 19-16 (Table 6-1). -/
def Report.word1 (r : Report) : Word :=
  match r.addr with
  | none => 0
  | some a => 0x8000 ||| (a.extractLsb' 16 4).setWidth 16

/-- Word 2: address bits 15-0 (Table 6-1). -/
def Report.word2 (r : Report) : Word :=
  match r.addr with
  | none => 0
  | some a => a.setWidth 16

/-- Words 0 to 6 of a record (Table 6-1). -/
def Report.words (r : Report) (stamp seq : Word) : List Word :=
  [r.word0, r.word1, r.word2, r.valueA, r.valueB, stamp, seq]

/-- The exclusive-or of a list of words (R108). -/
def xorWords (ws : List Word) : Word := ws.foldl (· ^^^ ·) 0

/-- A record as its creation fixes it: the check word is the exclusive-or of words 0 to 6 (R105, R108). -/
def Record.make (r : Report) (stamp seq : Word) : Record where
  report := r
  stamp := stamp
  seq := seq
  check := xorWords (r.words stamp seq)

/-- Words 0 to 7 of a record (Table 6-1). -/
def Record.words (r : Record) : List Word := r.report.words r.stamp r.seq ++ [r.check]

/-- The 16 bytes POP_EVENT shifts out: word 0 first, upper byte first (Table 6-1 note 2). -/
def Record.bytes (r : Record) : List Byte := r.words.flatMap wordBytes

end Sys2Proof.Machine
end

