-- ==== Sys2Proof/Machine/Flags.lean ====
section
/-! DEFINITION. Flags and counts: the notice flags and ATN (section 10.5), the summary status byte (R175), the
sensed bits of a change (R67), and saturating counts (spec/00 Conventions). -/

namespace Sys2Proof.Machine

/-! ### Counts -/

/-- A 16-bit count saturating at 65535 (R3). -/
def satInc (c : Word) : Word := if c = 0xFFFF then 0xFFFF else c + 1

/-- An accumulator after adding a weight, staying at 65535 when the sum would exceed it (R91). -/
def satAdd (c : Word) (weight : Byte) : Word :=
  if c.toNat + weight.toNat > 65535 then 0xFFFF else c + weight.setWidth 16

/-- An accumulator after a decay step, 0 when smaller than the step (R96). -/
def decayed (c : Word) (step : Byte) : Word :=
  if c.toNat < step.toNat then 0 else c - step.setWidth 16

/-! ### Sensing -/

/-- The sensed bits of a change from `old` to `new` under a region's masks (R67). -/
def sensedBits (c : RegionConfig) (old new : Word) : Word :=
  (~~~old &&& new &&& c.riseMask) ||| (old &&& ~~~new &&& c.fallMask)

/-- Whether the pair is a sensed change (R67). -/
def sensed (c : RegionConfig) (old new : Word) : Bool := sensedBits c old new != 0

/-! ### Notices -/

/-- Bit positions of the notices (Table 10-8). -/
def Notice.position : Notice → Nat
  | .linkDone => 0
  | .chainEnded => 1
  | .starved => 2
  | .queueHigh => 3
  | .loss => 4
  | .alert => 5
  | .trip => 6
  | .snapDone => 7
  | .primed => 8
  | .parity => 9
  | .clash => 10

/-- The flag word with one notice set. -/
def Notice.bit (n : Notice) : BitVec 11 := 1 <<< n.position

/-- Whether a notice flag is set. -/
def State.noticeSet (s : State) (n : Notice) : Bool := s.notices.flags.getLsbD n.position

/-- A block sets a notice flag; a flag already set stays set (R180). -/
def State.setNotice (s : State) (n : Notice) : State :=
  { s with notices := { s.notices with flags := s.notices.flags ||| n.bit } }

/-- Clears the flags named by `bits`, with the side effects of R180: a cleared SNAP_DONE sets the SNAP
completeness to none, a cleared CLASH clears the clash-reported flag (R36). -/
def State.clearNotices (s : State) (bits : BitVec 11) : State :=
  let cleared := s.notices.flags &&& bits
  { s with
    notices := { s.notices with
      flags := s.notices.flags &&& ~~~bits
      completeness :=
        if cleared.getLsbD Notice.snapDone.position then .none else s.notices.completeness }
    path := { s.path with
      clashReported :=
        if cleared.getLsbD Notice.clash.position then false else s.path.clashReported } }

/-- The level of the ATN line (R184): high while a set flag's mask bit is set. -/
def State.atn (s : State) : Bool := s.notices.flags &&& s.notices.mask != 0

/-! ### Status -/

/-- The queue depth (R112). -/
def State.depth (s : State) : Nat := s.queue.records.length

/-- The summary status byte (Table 10-1, R175). -/
def State.statusByte (s : State) : Byte :=
  bitAt s.atn 7 ||| (s.monitor.state.code <<< 5) ||| (s.drain.state.code <<< 3) |||
  bitAt (decide (0 < s.depth)) 2 ||| bitAt (decide (s.queue.highMark ≤ s.depth)) 1 |||
  bitAt (s.port.lastResult != .ok) 0

end Sys2Proof.Machine
end

