-- ==== Sys2Proof/Machine/Ops.lean ====
section
/-! DEFINITION. The shared operations of the block: frames, region records, the Shadow Store, records and the
Event Queue, the arbiter, the Prime Engine, the Change Detector, the integrators, the Drain Engine, and the
resets. The meanings of the commands are written over them. -/

namespace Sys2Proof.Machine

/-! ### Frames (section 10.1) -/

/-- What a frame command does: its code, how many operand bytes the judgement of a read command waits for, what it
fixes when the last of them is received, the bytes of its next unit of response data, and its effect and result at the
rise of CFG_CS#. -/
structure FrameSpec where
  command : Option Byte
  operands : Nat := 0
  receive : List Byte → State → Latch := fun _ _ => .nothing
  unit : Frame → State → Option (List Byte) := fun _ _ => none
  effect : Frame → State → State × ResultCode

/-- The level the part drives on CFG_DO, or none while it drives nothing (R172): most significant bit first, the first
bit from the fall of CFG_CS#, each further one from a falling edge of CFG_CLK. -/
def State.cfgDo (s : State) : Option Bool :=
  if s.port.selected then
    some (s.port.out.getLsbD (7 - (if s.port.clock then s.port.bits - 1 else s.port.bits)))
  else none

/-- CFG_CS# falls: a frame begins, and the status byte taken now goes out first (R172, R175). -/
def openFrame (s : State) : State :=
  { s with port := { s.port with
      selected := true
      frame := some { command := none, ops := [], latch := .nothing, units := 0, data := [] }
      clock := false
      bits := 0
      out := s.statusByte
      sent := [] } }

/-- A command names the frame in progress while no command byte, or its own, has been received. The rest of a frame
that a full reset has ended is any command's (R174). -/
def FrameSpec.fits (spec : FrameSpec) (p : Port) : Bool :=
  match p.frame with
  | none => true
  | some f => f.command.isNone || f.command == spec.command

/-- A byte can be completed: the row of an incomplete command byte (R173) receives none. -/
def FrameSpec.completes (spec : FrameSpec) (p : Port) : Bool := p.frame.isNone || spec.command.isSome

/-- A byte has been received in full (R172): the command byte, or the next of the bytes after it, which is 0x00 beyond
those listed. A read command is judged when its last operand byte has been received (R173). -/
def receiveByte (spec : FrameSpec) (ops : List Byte) (s : State) (f : Frame) : Frame :=
  match f.command with
  | none => { f with
      command := spec.command
      latch := if spec.operands = 0 then spec.receive [] s else f.latch }
  | some _ =>
    let received := f.ops ++ [ops.getD f.ops.length 0]
    { f with
      ops := received
      latch := if received.length = spec.operands then spec.receive received s else f.latch }

/-- The eighth bit of a byte has been shifted in and out. -/
def endByte (spec : FrameSpec) (ops : List Byte) (s : State) : State :=
  { s with port := { s.port with
      frame := s.port.frame.map (receiveByte spec ops s)
      sent := s.port.sent ++ [s.port.out] } }

/-- The byte shifted out next (R172): the last result code after the command byte, then the response data, then
0x00. -/
def nextByte (spec : FrameSpec) (s : State) (f : Frame) : Byte × Frame :=
  if f.ops = [] then (s.port.lastResult.code, f)
  else match f.data with
    | b :: rest => (b, { f with data := rest })
    | [] =>
      match spec.unit f s with
      | some (b :: rest) => (b, { f with data := rest, units := f.units + 1 })
      | _ => (0, f)

/-- The part begins to shift out a byte; for the rest of a frame that a full reset has ended it is 0x00 (R174). -/
def beginByte (spec : FrameSpec) (s : State) : State :=
  match s.port.frame with
  | none => { s with port := { s.port with out := 0 } }
  | some f => { s with port := { s.port with
      frame := some (nextByte spec s f).2
      out := (nextByte spec s f).1 } }

/-- CFG_CLK rises while CFG_CS# is low: one bit is shifted in (R172). -/
def riseClock (spec : FrameSpec) (ops : List Byte) (s : State) : State :=
  if s.port.selected && !s.port.clock && spec.fits s.port then
    if s.port.bits < 7 then
      { s with port := { s.port with clock := true, bits := s.port.bits + 1 } }
    else if spec.completes s.port then
      let received := endByte spec ops s
      { received with port := { received.port with clock := true, bits := 8 } }
    else s
  else s

/-- CFG_CLK falls while CFG_CS# is low: the next bit is shifted out (R172). -/
def fallClock (spec : FrameSpec) (s : State) : State :=
  if s.port.selected && s.port.clock && spec.fits s.port then
    if s.port.bits < 8 then { s with port := { s.port with clock := false } }
    else
      let begun := beginByte spec s
      { begun with port := { begun.port with clock := false, bits := 0 } }
  else s

/-- Eight clock periods from the first bit of a byte: a byte is shifted in and out, and the next begun (R172). -/
def exchangeByte (spec : FrameSpec) (ops : List Byte) (s : State) : State :=
  if s.port.selected && !s.port.clock && s.port.bits == 0 && spec.fits s.port && spec.completes s.port then
    beginByte spec (endByte spec ops s)
  else s

/-- `n` bytes, one after another. -/
def exchangeBytes (spec : FrameSpec) (ops : List Byte) : Nat → State → State
  | 0, s => s
  | n + 1, s => exchangeBytes spec ops n (exchangeByte spec ops s)

/-- The port once CFG_CS# has risen on a frame with this result (R173). -/
def Port.ended (p : Port) (result : ResultCode) : Port :=
  { p with selected := false, frame := none, lastResult := result }

/-- CFG_CS# rises: a frame without a command byte has no effect, any other takes effect and its result becomes the
last result code (R173); nothing is taken of a frame that a full reset has ended (R174). -/
def closeFrame (spec : FrameSpec) (s : State) : State :=
  match s.port.frame with
  | none => { s with port := { s.port with selected := false } }
  | some f =>
    match f.command with
    | none => { s with port := s.port.ended s.port.lastResult }
    | some code =>
      if spec.command = some code then
        let done := spec.effect f s
        { done.1 with port := done.1.port.ended done.2 }
      else s

/-- The bytes a command lists: its command byte and its operand bytes. -/
def FrameSpec.listed (spec : FrameSpec) (ops : List Byte) : Nat :=
  match spec.command with
  | none => 0
  | some _ => 1 + ops.length

/-- A part of a frame, or the whole of it (R172, R173). A frame begins only while CFG_CS# is high; a part of a frame
of another command is not taken (log entries 2 and 7). -/
def runFrame (spec : FrameSpec) (ops : List Byte) (act : FrameAct) (s : State) : State :=
  match act with
  | .whole extra =>
    if s.port.selected then s
    else closeFrame spec (exchangeBytes spec ops (spec.listed ops + extra) (openFrame s))
  | .start => if s.port.selected then s else openFrame s
  | .clockRises => riseClock spec ops s
  | .clockFalls => fallClock spec s
  | .byte => exchangeByte spec ops s
  | .finish => closeFrame spec s

/-- A frame command that returns no data and is judged at the rise alone. -/
def plainFrame (code : Byte) (effect : List Byte → State → State × ResultCode) : FrameSpec where
  command := some code
  effect := fun f s => effect f.ops s

/-! ### Region records -/

/-- The record at an index. -/
def State.region (s : State) (r : Fin 32) : Region := s.regions.get r

/-- Replaces one record. -/
def State.setRegion (s : State) (r : Fin 32) (x : Region) : State :=
  { s with regions := s.regions.set r x }

/-- Changes one record. -/
def State.modRegion (s : State) (r : Fin 32) (f : Region → Region) : State :=
  s.setRegion r (f (s.region r))

/-- Changes every record. -/
def State.mapRegions (s : State) (f : Region → Region) : State :=
  { s with regions := Vector.ofFn fun i => f (s.regions.get i) }

/-- IDLE, HELD, PRIMING or LIVE (spec/00, Table 0-3). -/
def Region.committed (x : Region) : Bool := x.state != .free

/-- HELD, PRIMING or LIVE (spec/00, Table 0-3). -/
def Region.enabled (x : Region) : Bool :=
  x.state == .held || x.state == .priming || x.state == .live

/-- A region acts on traffic in PRIMING and LIVE (R18). -/
def Region.acting (x : Region) : Bool := x.state == .priming || x.state == .live

/-- The region keeps a shadow: WATCH or VERIFY (R48). -/
def RegionConfig.shadowed (c : RegionConfig) : Bool := c.watch || c.verify

/-- limit - base + 1 (R1). -/
def RegionConfig.size (c : RegionConfig) : Nat := c.limit.toNat - c.base.toNat + 1

/-- The range base to limit inclusive contains the word address (R17). -/
def RegionConfig.contains (c : RegionConfig) (a : Addr) : Bool :=
  decide (c.base.toNat ≤ a.toNat) && decide (a.toNat ≤ c.limit.toNat)

/-- Two inclusive ranges of word addresses share an address. -/
def rangesMeet (base limit base' limit' : Nat) : Bool :=
  decide (base ≤ limit') && decide (base' ≤ limit)

/-- The region whose range contains the address, among the committed regions (R17). -/
def State.lookup (s : State) (a : Addr) : Option (Fin 32) :=
  (List.finRange 32).find? fun r => (s.region r).committed && (s.region r).cfg.contains a

/-- The lookup's answer when that region acts on traffic; IDLE and HELD count as no region (R18). -/
def State.actingRegion (s : State) (a : Addr) : Option (Fin 32) :=
  match s.lookup a with
  | none => none
  | some r => if (s.region r).acting then some r else none

/-- Clears an integrator: accumulator 0, alert flag and trip latch clear (R101). -/
def Region.clearIntegrator (x : Region) : Region :=
  { x with accumulator := 0, alertFlag := false, tripLatch := false }

/-- Entry to PRIMING: cursor and primed counts 0 (R11). -/
def Region.enterPriming (x : Region) : Region :=
  { x with state := .priming, primeCursor := 0, enginePrimed := 0, trafficPrimed := 0 }

/-- An enabled region begins to act: PRIMING with WATCH or VERIFY, else LIVE (R10, R15). -/
def Region.activate (x : Region) : Region :=
  if x.cfg.shadowed then x.enterPriming else { x with state := .live }

/-! ### Shadow Store (R47 to R53) -/

/-- The value of a shadow word, none when it is invalid. -/
def shadowGet : List (Nat × Word) → Nat → Option Word
  | [], _ => none
  | (i, v) :: rest, k => if i = k then some v else shadowGet rest k

/-- Makes the word at an index valid with a value, keeping the ascending order. -/
def shadowSet : List (Nat × Word) → Nat → Word → List (Nat × Word)
  | [], k, w => [(k, w)]
  | (i, v) :: rest, k, w =>
    if k < i then (k, w) :: (i, v) :: rest
    else if k = i then (k, w) :: rest
    else (i, v) :: shadowSet rest k w

/-- Makes invalid every word from `first` for `length` indices (R53). -/
def shadowClear (m : List (Nat × Word)) (first length : Nat) : List (Nat × Word) :=
  m.filter fun p => !(decide (first ≤ p.1) && decide (p.1 < first + length))

/-- The canonical form of the Shadow Store: indices strictly ascending and below 4096. -/
def Shadow.wf : List (Nat × Word) → Bool
  | [] => true
  | [p] => decide (p.1 < Config.shadowWords)
  | p :: q :: rest =>
    decide (p.1 < Config.shadowWords) && decide (p.1 < q.1) && Shadow.wf (q :: rest)

/-- A region's extent: its entry in the Shadow Allocation List (R49). -/
def State.extentOf (s : State) (r : Fin 32) : Option Extent := s.alloc.find? fun e => e.region = r

/-- The shadow index a word address of a region maps to (R48). -/
def State.shadowIndex (s : State) (r : Fin 32) (a : Addr) : Option Nat :=
  (s.extentOf r).map fun e => e.first + (a.toNat - (s.region r).cfg.base.toNat)

/-- Makes the words of a region's extent invalid (R53). -/
def State.invalidate (s : State) (r : Fin 32) : State :=
  match s.extentOf r with
  | none => s
  | some e => { s with shadow := shadowClear s.shadow e.first e.length }

/-- Takes a value into a shadow word. -/
def State.writeShadow (s : State) (k : Nat) (w : Word) : State :=
  { s with shadow := shadowSet s.shadow k w }

/-- First fit among the extents in ascending order, from index `from_`: the first free run of at least `n`
indices (R50). -/
def firstFit (n : Nat) : Nat → List Extent → Option Nat
  | at_, [] => if at_ + n ≤ Config.shadowWords then some at_ else none
  | at_, e :: rest => if at_ + n ≤ e.first then some at_ else firstFit n (e.first + e.length) rest

/-- The longest free run between the extents in ascending order, from index `at_` (R52). -/
def largestFree : Nat → List Extent → Nat
  | at_, [] => Config.shadowWords - at_
  | at_, e :: rest => max (e.first - at_) (largestFree (e.first + e.length) rest)

/-- The free shadow words (R52). -/
def freeShadowWords (alloc : List Extent) : Nat :=
  Config.shadowWords - (alloc.map Extent.length).sum

/-- Inserts an entry at its place in index order (R50). -/
def insertExtent (e : Extent) : List Extent → List Extent
  | [] => [e]
  | x :: rest => if e.first < x.first then e :: x :: rest else x :: insertExtent e rest

/-- The list without a region's entry (R51). -/
def removeExtent (r : Fin 32) (alloc : List Extent) : List Extent :=
  alloc.filter fun e => e.region ≠ r

/-! ### Records and the Event Queue (R109 to R117) -/

/-- A record enters at the tail; QUEUE_HIGH is set when the entry takes the depth from below the high mark to it
(R113, R117). -/
def State.enterRecord (s : State) (r : Record) : State :=
  let entered := { s with queue := { s.queue with records := s.queue.records ++ [r] } }
  if s.depth + 1 = s.queue.highMark then entered.setNotice .queueHigh else entered

/-- A record is lost to a full queue (R114). -/
def State.loseRecord (s : State) (r : Record) : State :=
  ({ s with queue := { s.queue with
      lossCount := satInc s.queue.lossCount
      firstLost := if s.queue.lossCount = 0 then r.seq else s.queue.firstLost } }).setNotice .loss

/-- The record that a report becomes when it is created now (R105, R109, R110). -/
def State.nextRecord (s : State) (b : Report) : Record :=
  Record.make b s.time.stamp s.queue.nextSeq

/-- A record is created: it takes the next sequence number and the time stamp, and enters the queue or is lost
(R109, R113, R114). -/
def State.createRecord (s : State) (b : Report) : State :=
  let numbered := { s with queue := { s.queue with nextSeq := s.queue.nextSeq + 1 } }
  if s.depth < Config.queueCapacity then numbered.enterRecord (s.nextRecord b)
  else numbered.loseRecord (s.nextRecord b)

/-- A producer's record, created in RUN only (Table 8-1, R82, R103). -/
def State.produce (s : State) (b : Report) : State :=
  if s.monitor.state = .run then s.createRecord b else s

/-- The LOSS record of R115: placed when the loss count is nonzero and a slot is free. -/
def State.placeLoss (s : State) : State :=
  if s.queue.lossCount ≠ 0 ∧ s.depth < Config.queueCapacity then
    let b : Report := { kind := .loss, valueA := s.queue.lossCount, valueB := s.queue.firstLost }
    ({ s with queue := { s.queue with nextSeq := s.queue.nextSeq + 1, lossCount := 0 } }).enterRecord
      (s.nextRecord b)
  else s

/-! ### Arbiter (R28, R29) -/

/-- The master claims while a master cycle has arrived and is not yet granted (Table 2-1). -/
def State.masterClaims (s : State) : Bool :=
  match s.path.cycle with
  | none => false
  | some c => c.phase == .waiting

/-- The drain claims while it is RUNNING with a link ACTIVE and the queue is not empty (Table 2-1). -/
def State.drainClaims (s : State) : Bool :=
  s.drain.state == .running && s.drain.current.isSome && decide (0 < s.depth)

/-- Whether a claimant's claim waits. -/
def State.claims (s : State) : Claimant → Bool
  | .master => s.masterClaims
  | .prime => s.prime.claim
  | .drain => s.drainClaims

/-- The decision of R29 among the claims waiting now. -/
def State.decision (s : State) : Option Claimant :=
  if s.masterClaims then some .master
  else if s.prime.claim && s.drainClaims then
    if s.queue.highMark ≤ s.depth then some .drain
    else match s.arb.lastBackground with
      | .prime => some .drain
      | .drain => some .prime
  else if s.prime.claim then some .prime
  else if s.drainClaims then some .drain
  else none

/-- The arbiter decides when the port is free and a claim waits (R29). A decision stands until its grant row is
taken, and falls when its claim is withdrawn (log entry 3). -/
def State.arbitrate (s : State) : State :=
  if s.arb.owner.isSome then s
  else match s.arb.award with
    | some c => if s.claims c then s else { s with arb := { s.arb with award := s.decision } }
    | none => { s with arb := { s.arb with award := s.decision } }

/-- The operation ends: the owner becomes none and R29 decides the next grant. -/
def State.releasePort (s : State) : State :=
  ({ s with
      path := { s.path with memCycle := none }
      arb := { s.arb with owner := none } }).arbitrate

/-- The port is granted to a claimant whose grant row is taken now (R28). -/
def State.takePort (s : State) (c : Claimant) (cycle : MemCycle) : State :=
  { s with
    path := { s.path with memCycle := some cycle }
    arb := { s.arb with owner := some c, award := none } }

/-! ### Master cycles (R26, R34, R35) -/

/-- The master ends its cycle (R26, R27). A waiting cycle's claim is removed; a forwarded cycle's memory cycle
runs on without an answer to the master; a completed cycle drops MBERR and the read data. -/
def State.endMasterCycle (s : State) : State :=
  ({ s with path := { s.path with
      cycle := none
      mwait := false
      mberr := false
      readData := none } }).arbitrate

/-- A cycle completes towards the master: MWAIT drops (R26). A cycle withdrawn meanwhile gets no answer, and a
cycle waiting behind it keeps waiting (R27). -/
def State.answerMaster (s : State) (readData : Option BusData) : State :=
  match s.path.cycle with
  | none => s
  | some c =>
    if c.phase = .forwarded then
      { s with path := { s.path with
          cycle := some { c with phase := .completed }
          mwait := false
          readData := readData } }
    else s

/-- The memory-side cycle of a forwarded master cycle, driven as the master gave it (R33, R39). -/
def MasterCycle.toMemory (c : MasterCycle) : MemCycle :=
  if c.write then ⟨true, c.addr, c.enables, c.data, c.parity⟩ else ⟨false, c.addr, c.enables, 0, 0⟩

/-- Whether a link's buffer is live: READY or ACTIVE (R126). -/
def Link.liveBuffer (l : Link) : Bool := l.state == .ready || l.state == .active

/-- The last word address of a link's buffer (R125). -/
def Link.lastWord (l : Link) : Nat := l.base.toNat + l.capacity.toNat - 1

/-- The link at an index. -/
def State.link (s : State) (i : Fin 8) : Link := s.drain.links.get i

/-- Replaces one link. -/
def State.setLink (s : State) (i : Fin 8) (l : Link) : State :=
  { s with drain := { s.drain with links := s.drain.links.set i l } }

/-- The address lies in the buffer of a READY or ACTIVE link (R32). -/
def State.clashes (s : State) (a : Addr) : Bool :=
  (List.finRange 8).any fun i =>
    (s.link i).liveBuffer && decide ((s.link i).base.toNat ≤ a.toNat) &&
      decide (a.toNat ≤ (s.link i).lastWord)

/-- Reasons of a refusal (Table 2-3, codes of Table 6-2). -/
inductive RefuseReason where
  | clash
  | lock (region : Fin 32)
  | trip (region : Fin 32)
deriving DecidableEq, Repr

/-- The refusal checks of R32, in their order. -/
def State.refusal (s : State) (a : Addr) : Option RefuseReason :=
  if s.clashes a then some .clash
  else match s.actingRegion a with
    | none => none
    | some r =>
      if (s.region r).cfg.lock then some (.lock r)
      else if (s.region r).tripLatch then some (.trip r)
      else none

/-- A refused write completes towards the master at its grant, without a memory cycle (R34). -/
def State.completeRefused (s : State) (c : MasterCycle) (mberr : Bool) : State :=
  ({ s with
      path := { s.path with
        cycle := some { c with phase := .completed }
        mwait := false
        mberr := mberr }
      arb := { s.arb with award := none } }).arbitrate

/-- A LOCK or TRIP refusal is counted, and reported in RUN once per region (R35). -/
def State.countRefusal (s : State) (r : Fin 32) (reason : Word) (c : MasterCycle) : State :=
  let counted := s.modRegion r fun x => { x with refusals := satInc x.refusals }
  if s.monitor.state = .run ∧ (s.region r).refusalReported = false then
    (counted.modRegion r fun x => { x with refusalReported := true }).createRecord
      { kind := .refuse, region := some r, addr := some c.addr, valueA := reason
        valueB := enabledData c.enables c.data }
  else counted

/-- A CLASH refusal sets its notice, and is reported in RUN while the clash-reported flag is clear (R36). -/
def State.countClash (s : State) (c : MasterCycle) : State :=
  let noticed := s.setNotice .clash
  if s.monitor.state = .run ∧ s.path.clashReported = false then
    ({ noticed with path := { noticed.path with clashReported := true } }).createRecord
      { kind := .refuse, addr := some c.addr, valueA := 3, valueB := enabledData c.enables c.data }
  else noticed

/-- The parity check of R41 and R42: made with the option on and the monitor out of STANDBY; an error sets the
notice and, in RUN, creates a PARITY record (R43). -/
def State.checkParity (s : State) (dir : Direction) (a : Addr) (enables : BitVec 2) (d : Word)
    (lines : BitVec 2) : State :=
  if s.port.parityCheck ∧ s.monitor.state ≠ .standby ∧ parityError enables d lines then
    (s.setNotice .parity).produce
      { kind := .parity, direction := dir, region := s.actingRegion a, addr := some a
        valueA := enabledData enables d, valueB := (lines &&& enables).setWidth 16 }
  else s

/-! ### Change Detector (spec/04) -/

/-- The report of a decided change (R86). -/
def changeReport (r : Fin 32) (a : Addr) (old new : Word) (settled unsettled : Bool) : Report where
  kind := .change
  settled := settled
  unsettled := unsettled
  region := some r
  addr := some a
  valueA := old
  valueB := new

/-- A change is decided: counted, and recorded in RUN (R69, R72, R76, R82). -/
def State.recordChange (s : State) (r : Fin 32) (a : Addr) (old new : Word) (settled unsettled : Bool) :
    State :=
  (s.modRegion r fun x => { x with changesRecorded := satInc x.changesRecorded }).produce
    (changeReport r a old new settled unsettled)

/-- The Settle Table entry of a word address. -/
def State.settleEntry (s : State) (a : Addr) : Option SettleEntry := s.settle.find? fun e => e.addr = a

/-- Removes the entry of a word address; the others keep their order (R70). -/
def State.dropEntry (s : State) (a : Addr) : State :=
  { s with settle := s.settle.filter fun e => e.addr ≠ a }

/-- Removes every entry of a region (R78, R79). -/
def State.dropEntries (s : State) (r : Fin 32) : State :=
  { s with settle := s.settle.filter fun e => e.region ≠ r }

/-- The Change Detector takes a completed write of a WATCH region (R68): old shadow value and merged value. -/
def State.detect (s : State) (r : Fin 32) (a : Addr) (old new : Word) : State :=
  let c := (s.region r).cfg
  if c.settleTime = 0 then
    if sensed c old new then s.recordChange r a old new false false else s
  else match s.settleEntry a with
    | none =>
      if sensed c old new then
        if s.settle.length < Config.settleCapacity then
          { s with settle := s.settle ++ [⟨r, a, old, new, c.settleTime.toNat⟩] }
        else s.recordChange r a old new false true
      else s
    | some e =>
      if new = e.candidate then s
      else if sensed c e.confirmed new then
        { s with settle := s.settle.map fun x =>
            if x.addr = a then { x with candidate := new, remaining := c.settleTime.toNat } else x }
      else
        (s.dropEntry a).modRegion r fun x => { x with bouncesSuppressed := satInc x.bouncesSuppressed }

/-- An expired entry is recorded as a SETTLED change (R76); it has left the table already. -/
def State.expireEntry (s : State) (e : SettleEntry) : State :=
  s.recordChange e.region e.addr e.confirmed e.candidate true false

/-- The Change Detector's part of a base tick: every entry loses a tick, and those that reach 0 leave the table
and are recorded in creation order (R75, R76). -/
def State.settleTick (s : State) : State :=
  let ticked := s.settle.map fun e => { e with remaining := e.remaining - 1 }
  (ticked.filter fun e => e.remaining = 0).foldl State.expireEntry
    { s with settle := ticked.filter fun e => e.remaining ≠ 0 }

/-- The read-verify comparison of a valid word (R62): a mismatch resynchronises the shadow, counts, drops the
settle entry of a WATCH region and, in RUN, creates a DIVERGE record (R63). -/
def State.verifyRead (s : State) (r : Fin 32) (a : Addr) (k : Nat) (held data : Word) : State :=
  if data = held then s
  else
    let synced := (s.writeShadow k data).modRegion r fun x => { x with divergences := satInc x.divergences }
    (if (s.region r).cfg.watch then synced.dropEntry a else synced).produce
      { kind := .diverge, direction := .read, region := some r, addr := some a, valueA := held, valueB := data }

/-! ### Activity Integrators (spec/05) -/

/-- The alert judgement after an addition (R92). -/
def State.judgeAlert (s : State) (r : Fin 32) (a : Addr) : State :=
  let x := s.region r
  if x.cfg.alertThreshold ≠ 0 ∧ x.cfg.alertThreshold.toNat ≤ x.accumulator.toNat ∧ x.alertFlag = false then
    ((s.modRegion r fun y => { y with alertFlag := true }).setNotice .alert).produce
      { kind := .alert, region := some r, addr := some a, valueA := x.accumulator
        valueB := x.cfg.alertThreshold }
  else s

/-- The trip judgement (R93, R100): `a` is the crossing write's address, absent for SET_THRESHOLDS. -/
def State.judgeTrip (s : State) (r : Fin 32) (a : Option Addr) : State :=
  let x := s.region r
  if x.cfg.tripThreshold.toNat ≤ x.accumulator.toNat ∧ x.tripLatch = false then
    ((s.modRegion r fun y => { y with tripLatch := true }).setNotice .trip).produce
      { kind := .trip, region := some r, addr := a, valueA := x.accumulator, valueB := x.cfg.tripThreshold }
  else s

/-- A completed write reaches its region's integrator (R91): off while the trip threshold is 0. -/
def State.integrate (s : State) (r : Fin 32) (a : Addr) : State :=
  if (s.region r).cfg.tripThreshold = 0 then s
  else
    ((s.modRegion r fun x => { x with accumulator := satAdd x.accumulator x.cfg.weight }).judgeAlert r a).judgeTrip
      r (some a)

/-- One region at a decay tick (R96, R97). -/
def Region.decay (step : Byte) (x : Region) : Region :=
  let acc := decayed x.accumulator step
  { x with
    accumulator := acc
    alertFlag := x.alertFlag && decide (x.cfg.alertThreshold.toNat ≤ acc.toNat) }

/-- A decay tick: every accumulator loses the decay step (R96). -/
def State.decayAll (s : State) : State := s.mapRegions (Region.decay s.time.decayStep)

/-! ### Traffic and the shadow (R37, R40, R54, R55) -/

/-- The Shadow Store and the Change Detector take a completed write of region `r` (R38, R54). -/
def State.shadowWrite (s : State) (r : Fin 32) (a : Addr) (enables : BitVec 2) (d : Word) : State :=
  match s.shadowIndex r a with
  | none => s
  | some k =>
    match shadowGet s.shadow k with
    | some old =>
      let merged := mergeBytes enables old d
      let written := s.writeShadow k merged
      if (s.region r).cfg.watch then written.detect r a old merged else written
    | none =>
      if enables = 3 then
        (s.writeShadow k d).modRegion r fun x => { x with trafficPrimed := satInc x.trafficPrimed }
      else s

/-- The Shadow Store takes a completed read's data (R55). -/
def State.shadowRead (s : State) (r : Fin 32) (a : Addr) (d : Word) : State :=
  match s.shadowIndex r a with
  | none => s
  | some k =>
    match shadowGet s.shadow k with
    | none => (s.writeShadow k d).modRegion r fun x => { x with trafficPrimed := satInc x.trafficPrimed }
    | some held => if (s.region r).cfg.verify then s.verifyRead r a k held d else s

/-- The consumers of a completed forwarded write, in the order of R37. -/
def State.consumeWrite (s : State) (a : Addr) (enables : BitVec 2) (d : Word) : State :=
  match s.actingRegion a with
  | none => s
  | some r =>
    (if (s.region r).cfg.shadowed then s.shadowWrite r a enables d else s).integrate r a

/-- The consumers of a completed forwarded read (R40): both bytes enabled, no parity error or check off. -/
def State.consumeRead (s : State) (a : Addr) (enables : BitVec 2) (d : Word) (lines : BitVec 2) : State :=
  match s.actingRegion a with
  | none => s
  | some r =>
    if (s.region r).cfg.shadowed ∧ enables = 3 ∧ ¬(s.port.parityCheck ∧ parityError enables d lines) then
      s.shadowRead r a d
    else s

/-! ### Prime Engine (R56 to R60) -/

/-- The lowest-indexed region in PRIMING (R57). -/
def State.lowestPriming (s : State) : Option (Fin 32) :=
  (List.finRange 32).find? fun r => (s.region r).state == .priming

/-- The first invalid shadow word of a region at an offset at or above `start` (R57, R58, R59). -/
def State.firstInvalid (s : State) (r : Fin 32) (start : Nat) : Option Nat :=
  match s.extentOf r with
  | none => none
  | some e =>
    (List.range' start ((s.region r).cfg.size - start)).find? fun k =>
      (shadowGet s.shadow (e.first + k)).isNone

/-- The word the engine reads next in region `r`, and the cursor its grant leaves: the first invalid word at or
above the cursor, else the lowest invalid word of the extent with the cursor at the size (R58, R59). -/
def State.primeTarget (s : State) (r : Fin 32) : Option (Nat × Nat) :=
  match s.firstInvalid r (s.region r).primeCursor with
  | some k => some (k, k + 1)
  | none => (s.firstInvalid r 0).map fun k => (k, (s.region r).cfg.size)

/-- A region completes priming (R59): LIVE, PRIMED set, a PRIMED record in RUN. -/
def State.completePriming (s : State) (r : Fin 32) : State :=
  ((s.modRegion r fun x => { x with state := .live, primeCursor := x.cfg.size }).setNotice .primed).produce
    { kind := .primed, region := some r, valueA := (s.region r).enginePrimed
      valueB := (s.region r).trafficPrimed }

/-- Steps of the Prime Engine, one for each region it brings to LIVE (R57, R59). `primeStep` allows one step more
than there are regions, so the steps always end with a claim or with no region left in PRIMING. -/
def primeSteps : Nat → State → State
  | 0, s => { s with prime := { s.prime with served := none, claim := false } }
  | n + 1, s =>
    match s.lowestPriming with
    | none => { s with prime := { s.prime with served := none, claim := false } }
    | some r =>
      let serving := { s with prime := { s.prime with served := some r } }
      match s.firstInvalid r (s.region r).primeCursor with
      | some _ => { serving with prime := { serving.prime with claim := true } }
      | none =>
        let rescanned := serving.modRegion r fun x => { x with primeCursor := x.cfg.size }
        match s.firstInvalid r 0 with
        | some _ => { rescanned with prime := { rescanned.prime with claim := true } }
        | none => primeSteps n (rescanned.completePriming r)

/-- A step of the Prime Engine (R57): nothing while a read is in flight. 32 regions can complete at most. -/
def State.primeStep (s : State) : State :=
  if s.prime.read.isSome then s else primeSteps 33 s

/-- The step the engine takes when a region leaves PRIMING while its claim waits (R57). -/
def State.primeLeft (s : State) : State := if s.prime.claim then s.primeStep else s

/-- Marks the read in flight cancelled when its region is one of those leaving PRIMING (R60). -/
def State.cancelRead (s : State) (leaving : Fin 32 → Bool) : State :=
  { s with prime := { s.prime with
      read := s.prime.read.map fun p => if leaving p.region then { p with cancelled := true } else p } }

/-- The Shadow Store takes a prime read's data (R60). -/
def State.takePrime (s : State) (p : PrimeRead) (d : Word) : State :=
  if p.cancelled = false ∧ (s.region p.region).state = .priming then
    match s.shadowIndex p.region p.addr with
    | none => s
    | some k =>
      match shadowGet s.shadow k with
      | some _ => s
      | none =>
        (s.writeShadow k d).modRegion p.region fun x => { x with enginePrimed := satInc x.enginePrimed }
  else s

/-! ### Drain Engine (spec/07) -/

/-- Drives one word of the part's own into a buffer: both byte enables, odd parity (R30, R135). -/
def drainCycle (a : Addr) (d : Word) : MemCycle := ⟨true, a, 3, d, parityLines d⟩

/-- The word address at an offset of a link's buffer. -/
def Link.wordAt (l : Link) (k : Nat) : Addr := l.base + BitVec.ofNat 20 k

/-- The words left in a link's buffer after its whole records (R136). -/
def Link.spaceLeft (l : Link) : Nat := l.capacity.toNat - l.fill * Config.recordWords

/-- Drives word `k` of the head record into the ACTIVE link (R135). -/
def State.driveWord (s : State) (k : Nat) : State :=
  match s.drain.current, s.queue.records with
  | some i, r :: _ =>
    let a := (s.link i).wordAt ((s.link i).fill * Config.recordWords + k)
    { s with
      path := { s.path with memCycle := some (drainCycle a (r.words.getD k 0)) }
      drain := { s.drain with recordInFlight := some k } }
  | _, _ => s

/-- Drives pad word `k` of the ACTIVE link's pad run (R136). -/
def State.drivePad (s : State) (k : Nat) : State :=
  match s.drain.current with
  | some i =>
    let a := (s.link i).wordAt ((s.link i).fill * Config.recordWords + k)
    { s with
      path := { s.path with memCycle := some (drainCycle a 0) }
      drain := { s.drain with padInFlight := some k } }
  | none => s

/-- A freeze ends: the monitor becomes FROZEN and SNAP_DONE is set with its completeness (R157, R158). -/
def State.endFreeze (s : State) (c : Completeness) : State :=
  let noticed := s.setNotice .snapDone
  { noticed with
    monitor := { noticed.monitor with state := .frozen }
    notices := { noticed.notices with completeness := c } }

/-- A flush mark ends without completion; a SNAP mark hands its ending to Monitor Control (R144, R158). DESIGN
CHOICE, log entry 22: STOP_DRAIN and ABORT_DRAIN end in this way also a mark already at 0 that waits for the last
pad of its FULL closure. -/
def State.endMark (s : State) : State :=
  match s.drain.mark with
  | none => s
  | some m =>
    let ended := { s with drain := { s.drain with mark := none } }
    match m.origin with
    | .flush => ended
    | .snap => ended.endFreeze .incomplete

/-- A completed flush mark becomes absent; a SNAP mark hands its completion to Monitor Control (R143, R157). -/
def State.completeMark (s : State) : State :=
  match s.drain.mark with
  | none => s
  | some m =>
    let ended := { s with drain := { s.drain with mark := none } }
    match m.origin with
    | .flush => ended
    | .snap => ended.endFreeze .complete

/-- The flush mark's count has reached 0 (R143). -/
def State.flushDue (s : State) : Bool :=
  match s.drain.mark with
  | none => false
  | some m => m.remaining == 0

/-- The link at an index becomes DONE with a reason, is no longer current, and its notify flag is judged (R126,
R138). -/
def State.closeLink (s : State) (i : Fin 8) (reason : CloseReason) : State :=
  let closed := s.setLink i { s.link i with state := .done, closeReason := some reason }
  let left := { closed with drain := { closed.drain with current := none } }
  if (s.link i).notify then
    let noticed := left.setNotice .linkDone
    { noticed with notices := { noticed.notices with lastNotified := some i } }
  else left

/-- The drain becomes ENDED and CHAIN_ENDED is set (R137, R138, R140). -/
def State.endChain (s : State) : State :=
  ({ s with drain := { s.drain with state := .ended } }).setNotice .chainEnded

/-- The drain becomes STARVED and the notice is set (R134, R137, R138). -/
def State.starve (s : State) : State :=
  ({ s with drain := { s.drain with state := .starved } }).setNotice .starved

/-- A link becomes ACTIVE and the current link, and the drain RUNNING (R129, R133, R134, R137). -/
def State.activateLink (s : State) (i : Fin 8) : State :=
  let l := { s.link i with state := LinkState.active }
  let set := s.setLink i l
  { set with drain := { set.drain with state := .running, current := some i } }

/-- The advance after link `i` has closed FULL or FLUSH (R137); a mark still present ends without completion
when the drain leaves RUNNING (R144). -/
def State.advance (s : State) (i : Fin 8) : State :=
  if (s.link i).endOfChain then s.endChain.endMark
  else
    let n := (s.link i).next
    let moved := { s with drain := { s.drain with pointer := n } }
    if s.drain.state = .running then
      if (s.link n).state = .ready then moved.activateLink n else moved.starve.endMark
    else moved

/-- A closure FULL of the current link whose last write has completed (R136): the flush mark completes with it
when its count is 0 (R143), and the advance follows. -/
def State.closeFull (s : State) (i : Fin 8) : State :=
  let closed := s.closeLink i .full
  (if s.flushDue then closed.completeMark else closed).advance i

/-- A flush completes with no FULL closure under way (R143): a current link with fill above 0 closes FLUSH, the
mark hands over, and the advance follows; a link with fill 0 stays ACTIVE. -/
def State.completeFlush (s : State) : State :=
  match s.drain.current with
  | none => s.completeMark
  | some i =>
    if 0 < (s.link i).fill then ((s.closeLink i .flush).completeMark).advance i else s.completeMark

/-- Steps 3 and 4 of an abort (R140, R141). -/
def State.settleAbort (s : State) (i : Fin 8) : State :=
  let cleared := { s with drain := { s.drain with abortPending := false } }
  if (s.link i).endOfChain then cleared.endChain
  else { cleared with drain := { cleared.drain with pointer := (s.link i).next } }

/-- An abort is carried out (R140): the current link becomes DONE with reason ABORT. -/
def State.carryOutAbort (s : State) : State :=
  match s.drain.current with
  | none => s
  | some i => (s.closeLink i .abort).settleAbort i

/-- The drain has no more to write in this burst (R30): burst count 0, queue empty, or not RUNNING. -/
def State.burstOver (s : State) : Bool :=
  s.arb.burstCount == 0 || decide (s.depth = 0) || s.drain.state != .running

/-- The head record's eighth write has completed (R118, R135): it leaves the queue, the fill grows, the burst
count and the flush mark's count fall (R30, R143), and a pending LOSS record is placed (R115). -/
def State.recordWritten (s : State) (i : Fin 8) : State :=
  let filled := s.setLink i { s.link i with fill := (s.link i).fill + 1 }
  ({ filled with
      path := { filled.path with memCycle := none }
      arb := { filled.arb with burstCount := filled.arb.burstCount - 1 }
      queue := { filled.queue with records := filled.queue.records.tail }
      drain := { filled.drain with
        recordInFlight := none
        mark := filled.drain.mark.map fun (m : FlushMark) => { m with remaining := m.remaining - 1 } } }).placeLoss

/-- The closure judgement after a record (R136, R141), the flush count (R143) and the burst's continuation
(R30). -/
def State.judgeClosure (s : State) (i : Fin 8) : State :=
  if s.drain.abortPending then s.carryOutAbort.releasePort
  else if Config.recordWords ≤ (s.link i).spaceLeft then
    if s.flushDue then s.completeFlush.releasePort
    else if s.burstOver then s.releasePort
    else s.driveWord 0
  else if (s.link i).spaceLeft = 0 then (s.closeFull i).releasePort
  else s.drivePad 0

/-- The last pad write has completed (R136, R141): the link closes FULL; a pending abort replaces the advance. -/
def State.padsWritten (s : State) (i : Fin 8) : State :=
  let done := { s with drain := { s.drain with padInFlight := none } }
  (if s.drain.abortPending then (done.closeLink i .full).settleAbort i else done.closeFull i).releasePort

/-- The SRDY of a drain write that a reset abandoned is being waited for (R44). -/
def State.abandonedWrite (s : State) : Bool :=
  s.arb.owner == some .drain && s.path.memCycle.isSome && s.drain.recordInFlight.isNone &&
    s.drain.padInFlight.isNone

/-- POP_EVENT and DISCARD_QUEUE are refused with BUSY (R119, R121). -/
def State.queueBusy (s : State) : Bool :=
  s.drain.state == .running || s.drain.recordInFlight.isSome

/-! ### Time (spec/09) -/

/-- The base tick's work on the counter and the decay countdown: the countdown that reaches 0 is loaded again
and produces a decay tick (R166, R167). -/
def State.tickCounters (s : State) : State :=
  let t := { s.time with stamp := s.time.stamp + 1, countdown := s.time.countdown - 1 }
  if t.countdown = 0 then ({ s with time := { t with countdown := t.decayDivider } }).decayAll
  else { s with time := t }

/-- A base tick (R166): counter and countdown, decay tick if due, then the Settle Table (R75). -/
def State.tick (s : State) : State :=
  (({ s with time := { s.time with count := 0 } }).tickCounters.settleTick).arbitrate

/-! ### Resets (sections 1.7, 8.5 and the reset rules of each chapter) -/

/-- The Cycle Path and the arbiter at a reset (R28, R44, R45): a cycle not completed is kept, the memory cycle in
flight keeps its owner until its SRDY, the rest takes its reset values. -/
def State.resetPath (s : State) : State :=
  { s with
    path := { s.path with
      cycle := s.path.cycle.filter fun c => c.phase ≠ .completed
      clashReported := false }
    arb := {
      owner := if s.path.memCycle.isSome then s.arb.owner else none
      award := none
      burstCount := 0
      lastBackground := .drain }
    prime := {
      served := none
      claim := false
      read := s.prime.read.map fun p => { p with cancelled := true } } }

/-- A full reset (R162 and the full-reset values of every chapter): `cause` is its cause, `s` the state it finds.
The RST line function is kept (Table 10-9). A frame in progress ends, and 0x00 is shifted out for the rest of it
(R174). DESIGN CHOICE, log entry 21: within a byte the bits already sampled stand, and every other bit is 0 from the
reset on, the one then driven on CFG_DO too. -/
def State.fullReset (s : State) (cause : ResetCause) : State :=
  ({ s.resetPath with
      regions := Vector.replicate 32 Region.freed
      staging := .zero
      shadow := []
      alloc := []
      shadowPointer := 0
      settle := []
      queue := { records := [], nextSeq := 0, lossCount := 0, firstLost := 0, highMark := 48 }
      drain := {
        links := Vector.replicate 8 Link.unloaded
        state := .stopped
        current := none
        pointer := 0
        mark := none
        recordInFlight := none
        padInFlight := none
        abortPending := false }
      monitor := { s.monitor with state := .standby, cause := cause }
      time := .afterReset
      port := { s.port with
        frame := none
        out := s.port.out &&& (0xFF <<< (8 - s.port.bits))
        lastResult := .ok
        parityCheck := true
        autoclear := false
        burstLimit := 4 }
      notices := { flags := 0, mask := 0, lastNotified := none, completeness := .none } }).arbitrate

/-- A region at a partial reset (R25). -/
def Region.partialReset (x : Region) : Region :=
  { x.clearIntegrator with state := if x.acting then .held else x.state }

/-- The Chain Table and the Drain Engine at a partial reset (R147). -/
def Drain.partialReset (d : Drain) : Drain :=
  { d with
    links := match d.current with
      | none => d.links
      | some i => d.links.set i { d.links.get i with state := .done, closeReason := some .reset }
    state := .stopped
    current := none
    mark := none
    recordInFlight := none
    padInFlight := none
    abortPending := false }

/-- A partial reset (R163 and the partial-reset values of every chapter). -/
def State.partialReset (s : State) : State :=
  ({ s.resetPath.mapRegions Region.partialReset with
      shadow := []
      settle := []
      queue := { s.queue with records := [], nextSeq := 0, lossCount := 0, firstLost := 0 }
      drain := s.drain.partialReset
      monitor := { s.monitor with state := .standby, cause := .linePartial }
      notices := { s.notices with flags := 0, lastNotified := none, completeness := .none } }).arbitrate

end Sys2Proof.Machine
end

