-- ==== Sys2Proof/Machine/BusEvents.lean ====
section
/-! DEFINITION. Events of the master bus, the grants to the master and to the Prime Engine, and their completions
(spec/02, spec/03). An event that cannot occur in the present state is not taken (log entry 2). -/

namespace Sys2Proof.Machine

/-- MASTER_CYCLE_ARRIVES (R26): recorded with MWAIT asserted, its claim on the port made. Both strobes are a write,
none is no cycle; the bus holds one cycle at a time. -/
def execMasterCycleArrives (moe mwe : Bool) (addr : Addr) (enables : BitVec 2) (data : Word)
    (parity : BitVec 2) (s : State) : Host.Outcome State Fault Refusal :=
  if s.path.cycle.isSome ∨ (moe = false ∧ mwe = false) then .next s
  else
    let c : MasterCycle :=
      { write := mwe
        addr := addr
        enables := enables
        data := if mwe then data else 0
        parity := if mwe then parity else 0
        phase := .waiting }
    .next ({ s with path := { s.path with
        cycle := some c
        mwait := true
        mberr := false
        readData := none } }).arbitrate

/-- MASTER_CYCLE_WITHDRAWN (R27): the master ends its cycle before completion; a cycle completed meanwhile ends
ordinarily. -/
def execMasterCycleWithdrawn (s : State) : Host.Outcome State Fault Refusal :=
  .next s.endMasterCycle

/-- MASTER_CYCLE_ENDS (R26): the master ends a completed cycle. A cycle not completed is thereby withdrawn (R27). -/
def execMasterCycleEnds (s : State) : Host.Outcome State Fault Refusal :=
  .next s.endMasterCycle

/-- The waiting master cycle whose grant is due: the arbiter has decided for the master (R29). -/
def State.grantedCycle (s : State) : Option MasterCycle :=
  if s.arb.owner = none ∧ s.arb.award = some .master then
    s.path.cycle.filter fun c => c.phase = .waiting
  else none

/-- The cycle is forwarded: driven on the memory side until its SRDY (R33, R39). -/
def State.forward (s : State) (c : MasterCycle) : State :=
  let taken := s.takePort .master c.toMemory
  { taken with path := { taken.path with cycle := some { c with phase := .forwarded } } }

/-- WRITE_GRANT (R32): parity check first (R41), then the refusal checks; refused (R34, R35, R36) or forwarded. -/
def execWriteGrant (s : State) : Host.Outcome State Fault Refusal :=
  match s.grantedCycle with
  | none => .next s
  | some c =>
    if c.write = false then .next s
    else
      let checked := s.checkParity .write c.addr c.enables c.data c.parity
      match s.refusal c.addr with
      | none => .next (checked.forward c)
      | some .clash => .next ((checked.countClash c).completeRefused c true)
      | some (.lock r) =>
        .next ((checked.countRefusal r 1 c).completeRefused c ((s.region r).cfg.policy == .error))
      | some (.trip r) =>
        .next ((checked.countRefusal r 2 c).completeRefused c ((s.region r).cfg.policy == .error))

/-- READ_GRANT (R39): forwarded in every case. -/
def execReadGrant (s : State) : Host.Outcome State Fault Refusal :=
  match s.grantedCycle with
  | none => .next s
  | some c => if c.write then .next s else .next (s.forward c)

/-- WRITE_COMPLETION (R37): the master's answer, then the consumers of the region found now, then R29 decides. -/
def execWriteCompletion (s : State) : Host.Outcome State Fault Refusal :=
  match s.path.memCycle with
  | none => .next s
  | some m =>
    if s.arb.owner = some .master ∧ m.write = true then
      .next (((s.answerMaster none).consumeWrite m.addr m.enables m.data).releasePort)
    else .next s

/-- READ_COMPLETION (R39, R40): data and parity lines return to the master unchanged, parity is checked (R42), the
data is handed on, then R29 decides. -/
def execReadCompletion (data : Word) (parity : BitVec 2) (s : State) : Host.Outcome State Fault Refusal :=
  match s.path.memCycle with
  | none => .next s
  | some m =>
    if s.arb.owner = some .master ∧ m.write = false then
      .next ((((s.answerMaster (some ⟨data, parity⟩)).checkParity .read m.addr m.enables data parity).consumeRead
        m.addr m.enables data parity).releasePort)
    else .next s

/-- The Prime Engine's grant chooses word `k` of region `r` and leaves the cursor at `cursor` (R58). -/
def State.issuePrime (s : State) (r : Fin 32) (k cursor : Nat) : State :=
  let a := (s.region r).cfg.base + BitVec.ofNat 20 k
  let taken := (s.modRegion r fun x => { x with primeCursor := cursor }).takePort .prime ⟨false, a, 3, 0, 0⟩
  { taken with
    arb := { taken.arb with lastBackground := .prime }
    prime := { taken.prime with claim := false, read := some ⟨r, a, false⟩ } }

/-- PRIME_GRANT (R58): the first pass, the rescan read, or nothing to read: then the served region completes
priming, the grant ends without a memory cycle, and the engine steps. -/
def execPrimeGrant (s : State) : Host.Outcome State Fault Refusal :=
  if s.arb.owner = none ∧ s.arb.award = some .prime then
    match s.prime.served with
    | none => .next s
    | some r =>
      match s.primeTarget r with
      | some (k, cursor) => .next (s.issuePrime r k cursor)
      | none =>
        let granted := { s with arb := { s.arb with award := none, lastBackground := .prime } }
        .next ((granted.completePriming r).primeStep).arbitrate
  else .next s

/-- PRIME_READ_COMPLETION (R60): parity is checked (R42), the data is taken or discarded, the read becomes absent,
the engine steps, and R29 decides. -/
def execPrimeReadCompletion (data : Word) (parity : BitVec 2) (s : State) :
    Host.Outcome State Fault Refusal :=
  match s.prime.read, s.path.memCycle with
  | some p, some m =>
    if s.arb.owner = some .prime then
      let taken := (s.checkParity .read m.addr m.enables data parity).takePrime p data
      .next (({ taken with prime := { taken.prime with read := none } }).primeStep).releasePort
    else .next s
  | _, _ => .next s

end Sys2Proof.Machine
end

