-- ==== Sys2Proof/Machine/DrainCommands.lean ====
section
/-! DEFINITION. The commands of the Chain Table, the Drain Engine and the Event Queue (spec/06, spec/07). -/

namespace Sys2Proof.Machine

/-- The buffer meets a committed region with WATCH or VERIFY (R128). -/
def State.bufferMeetsRegion (s : State) (base last : Nat) : Bool :=
  (List.finRange 32).any fun r =>
    (s.region r).committed && (s.region r).cfg.shadowed &&
      rangesMeet base last (s.region r).cfg.base.toNat (s.region r).cfg.limit.toNat

/-- The buffer meets the buffer of a READY or ACTIVE link other than `i` (R128). -/
def State.bufferMeetsLink (s : State) (i : Fin 8) (base last : Nat) : Bool :=
  (List.finRange 8).any fun j =>
    decide (j ≠ i) && (s.link j).liveBuffer && rangesMeet base last (s.link j).base.toNat (s.link j).lastWord

/-- The link LOAD_LINK installs (R127). -/
def loadedLink (base : BitVec 24) (capacity : Word) (next : Fin 8) (flags : Byte) : Link where
  base := base.setWidth 20
  capacity := capacity
  next := next
  endOfChain := flags.getLsbD 0
  notify := flags.getLsbD 1
  state := .ready
  fill := 0
  closeReason := none

/-- LOAD_LINK's checks in the order of R127, and its effect: READY, or taken at once by a STARVED drain whose
pointer names it (R129). -/
def loadLinkEffect (ops : List Byte) (s : State) : State × ResultCode :=
  match ops with
  | index :: b2 :: b1 :: b0 :: c1 :: c0 :: next :: flags :: _ =>
    let base := value24 b2 b1 b0
    let capacity := wordOf c1 c0
    let last := base.toNat + capacity.toNat - 1
    match linkIndex index with
    | none => (s, .badIndex)
    | some i =>
      if (s.link i).state = .active then (s, .busy)
      else match linkIndex next with
        | none => (s, .badRange)
        | some n =>
          if 0xFFFFF < base.toNat ∨ capacity.toNat < 8 ∨ 0xFFFFF < last then (s, .badRange)
          else if s.bufferMeetsRegion base.toNat last ∨ s.bufferMeetsLink i base.toNat last then (s, .overlap)
          else
            let loaded := s.setLink i (loadedLink base capacity n flags)
            if s.drain.state = .starved ∧ s.drain.pointer = i then ((loaded.activateLink i).arbitrate, .ok)
            else (loaded, .ok)
  | _ => (s, .shortFrame)

/-- LOAD_LINK. -/
def execLoadLink (ops : List Byte) (act : FrameAct) (s : State) : Host.Outcome State Fault Refusal :=
  .next (runFrame (plainFrame 0x20 loadLinkEffect) ops act s)

/-- READ_LINK (R131), judged when its index has been received; the data is that held when the part begins to
shift it. -/
def readLinkFrame : FrameSpec where
  command := some 0x21
  operands := 1
  receive := fun ops _ =>
    match ops with
    | index :: _ => if (linkIndex index).isSome then .nothing else .refused .badIndex
    | [] => .nothing
  unit := fun f s =>
    match f.ops with
    | index :: _ => if f.units = 0 then (linkIndex index).map fun i => linkBytes (s.link i) else none
    | [] => none
  effect := fun f s =>
    match f.ops, f.latch with
    | [], _ => (s, .shortFrame)
    | _ :: _, .refused result => (s, result)
    | _ :: _, _ => (s, .ok)

/-- READ_LINK. -/
def execReadLink (ops : List Byte) (act : FrameAct) (s : State) : Host.Outcome State Fault Refusal :=
  .next (runFrame readLinkFrame ops act s)

/-- UNLOAD_LINK (R130). -/
def unloadLinkEffect (ops : List Byte) (s : State) : State × ResultCode :=
  match ops with
  | [] => (s, .shortFrame)
  | index :: _ =>
    match linkIndex index with
    | none => (s, .badIndex)
    | some i =>
      match (s.link i).state with
      | .active => (s, .busy)
      | .empty => (s, .badState)
      | .ready | .done =>
        (s.setLink i { s.link i with state := .empty, fill := 0, closeReason := none }, .ok)

/-- UNLOAD_LINK. -/
def execUnloadLink (ops : List Byte) (act : FrameAct) (s : State) : Host.Outcome State Fault Refusal :=
  .next (runFrame (plainFrame 0x28 unloadLinkEffect) ops act s)

/-- START_DRAIN naming a link (R133): abort pending, then the drain STOPPED or ENDED with no link ACTIVE and the
named link READY. -/
def State.startDrainAt (s : State) (i : Fin 8) : State × ResultCode :=
  if s.drain.abortPending then (s, .busy)
  else if (s.drain.state = .stopped ∨ s.drain.state = .ended) ∧ s.drain.current = none ∧
      (s.link i).state = .ready then
    let pointed := { s with drain := { s.drain with pointer := i } }
    ((pointed.activateLink i).arbitrate, .ok)
  else (s, .badState)

/-- START_DRAIN continue (R134). -/
def State.continueDrain (s : State) : State × ResultCode :=
  if s.drain.abortPending then (s, .busy)
  else if s.drain.state ≠ .stopped then (s, .badState)
  else if s.drain.current.isSome then
    (({ s with drain := { s.drain with state := .running } }).arbitrate, .ok)
  else if (s.link s.drain.pointer).state = .ready then ((s.activateLink s.drain.pointer).arbitrate, .ok)
  else (s.starve, .ok)

/-- START_DRAIN: 0 to 7 names a link, 0xFF continues, any other operand is out of range (R133). The checks run in
the order R133 gives for an index; an operand out of range is judged first. -/
def startDrainEffect (ops : List Byte) (s : State) : State × ResultCode :=
  match ops with
  | [] => (s, .shortFrame)
  | index :: _ =>
    if index = 0xFF then s.continueDrain
    else match linkIndex index with
      | none => (s, .badIndex)
      | some i => s.startDrainAt i

/-- START_DRAIN. -/
def execStartDrain (ops : List Byte) (act : FrameAct) (s : State) : Host.Outcome State Fault Refusal :=
  .next (runFrame (plainFrame 0x22 startDrainEffect) ops act s)

/-- START_DRAIN_CONTINUE: START_DRAIN with operand 0xFF. -/
def execStartDrainContinue (act : FrameAct) (s : State) : Host.Outcome State Fault Refusal :=
  .next (runFrame (plainFrame 0x22 startDrainEffect) [0xFF] act s)

/-- STOP_DRAIN (R139): a record or pad run in flight is not cut off; a flush mark ends without completion. -/
def stopDrainEffect (_ops : List Byte) (s : State) : State × ResultCode :=
  match s.drain.state with
  | .running | .starved =>
    ((({ s with drain := { s.drain with state := .stopped } }).endMark).arbitrate, .ok)
  | .stopped | .ended => (s, .badState)

/-- STOP_DRAIN. -/
def execStopDrain (act : FrameAct) (s : State) : Host.Outcome State Fault Refusal :=
  .next (runFrame (plainFrame 0x23 stopDrainEffect) [] act s)

/-- FLUSH (R142): a mark counting the present depth; a count of 0 completes at once unless a pad run is in flight,
whose last write then completes it (R143). -/
def flushEffect (_ops : List Byte) (s : State) : State × ResultCode :=
  if s.drain.state ≠ .running then (s, .badState)
  else if s.drain.mark.isSome then (s, .busy)
  else
    let marked := { s with drain := { s.drain with mark := some ⟨s.depth, .flush⟩ } }
    if s.depth = 0 ∧ s.drain.padInFlight = none then (marked.completeFlush.arbitrate, .ok)
    else (marked, .ok)

/-- FLUSH. -/
def execFlush (act : FrameAct) (s : State) : Host.Outcome State Fault Refusal :=
  .next (runFrame (plainFrame 0x24 flushEffect) [] act s)

/-- ABORT_DRAIN (R140): carried out at once, or pending while a record or pad run is in flight. -/
def abortDrainEffect (_ops : List Byte) (s : State) : State × ResultCode :=
  if s.drain.abortPending then (s, .busy)
  else if s.drain.state = .running ∨ (s.drain.state = .stopped ∧ s.drain.current.isSome) then
    let stopped := ({ s with drain := { s.drain with state := .stopped } }).endMark
    if s.drain.recordInFlight.isSome ∨ s.drain.padInFlight.isSome then
      (({ stopped with drain := { stopped.drain with abortPending := true } }).arbitrate, .ok)
    else (stopped.carryOutAbort.arbitrate, .ok)
  else (s, .badState)

/-- ABORT_DRAIN. -/
def execAbortDrain (act : FrameAct) (s : State) : Host.Outcome State Fault Refusal :=
  .next (runFrame (plainFrame 0x25 abortDrainEffect) [] act s)

/-- POP_EVENT (R119, R120): judged and its record taken when the command byte is received; when the frame takes
effect that record leaves the head of the queue, if it is still held. -/
def popEventFrame : FrameSpec where
  command := some 0x26
  receive := fun _ s => if s.queueBusy then .refused .busy else .head s.queue.records.head?
  unit := fun f _ =>
    match f.latch with
    | .head (some r) => if f.units = 0 then some r.bytes else none
    | .head none => if f.units = 0 then some (List.replicate 16 0) else none
    | _ => none
  effect := fun f s =>
    match f.latch with
    | .refused result => (s, result)
    | .head (some r) =>
      if s.queue.records.head? = some r then
        ((({ s with queue := { s.queue with records := s.queue.records.tail } }).placeLoss).arbitrate, .ok)
      else (s, .ok)
    | _ => (s, .ok)

/-- POP_EVENT. -/
def execPopEvent (act : FrameAct) (s : State) : Host.Outcome State Fault Refusal :=
  .next (runFrame popEventFrame [] act s)

/-- DISCARD_QUEUE (R121): every record leaves, and a pending LOSS record is placed. -/
def discardQueueEffect (_ops : List Byte) (s : State) : State × ResultCode :=
  if s.queueBusy then (s, .busy)
  else ((({ s with queue := { s.queue with records := [] } }).placeLoss).arbitrate, .ok)

/-- DISCARD_QUEUE. -/
def execDiscardQueue (act : FrameAct) (s : State) : Host.Outcome State Fault Refusal :=
  .next (runFrame (plainFrame 0x27 discardQueueEffect) [] act s)

end Sys2Proof.Machine
end

