-- ==== Sys2Proof/Machine/DrainEvents.lean ====
section
/-! DEFINITION. The drain's grant, its write completions, and the drain's and the queue's internal events (spec/02
section 2.2, spec/06, spec/07). An event that cannot occur in the present state is not taken (log entry 2). -/

namespace Sys2Proof.Machine

/-- DRAIN_GRANT (R28, R30): the burst count takes the burst limit and the head record's writes begin. -/
def execDrainGrant (s : State) : Host.Outcome State Fault Refusal :=
  if s.arb.owner = none ∧ s.arb.award = some .drain then
    .next (({ s with arb := {
        owner := some .drain
        award := none
        burstCount := s.port.burstLimit
        lastBackground := .drain } }).driveWord 0)
  else .next s

/-- DRAIN_WRITE_COMPLETION (R135): one of words 0 to 6 is written and the next is driven. The SRDY of a write that
a reset abandoned frees the port (R44, log entry 15). -/
def execDrainWriteCompletion (s : State) : Host.Outcome State Fault Refusal :=
  if s.abandonedWrite then .next s.releasePort
  else match s.drain.recordInFlight with
    | none => .next s
    | some k =>
      if s.arb.owner = some .drain ∧ s.path.memCycle.isSome ∧ k < 7 then .next (s.driveWord (k + 1))
      else .next s

/-- RECORD_WRITE_COMPLETION (R135): the eighth word is written. The SRDY of a write that a reset abandoned frees
the port (R44, log entry 15). -/
def execRecordWriteCompletion (s : State) : Host.Outcome State Fault Refusal :=
  if s.abandonedWrite then .next s.releasePort
  else match s.drain.recordInFlight, s.drain.current with
    | some k, some i =>
      if s.arb.owner = some .drain ∧ s.path.memCycle.isSome ∧ k = 7 then
        .next ((s.recordWritten i).judgeClosure i)
      else .next s
    | _, _ => .next s

/-- PAD_WRITE_COMPLETION (R136): one pad word is written; the last one closes the link. The SRDY of a write that a
reset abandoned frees the port (R44, log entry 15). -/
def execPadWriteCompletion (s : State) : Host.Outcome State Fault Refusal :=
  if s.abandonedWrite then .next s.releasePort
  else match s.drain.padInFlight, s.drain.current with
    | some k, some i =>
      if s.arb.owner = some .drain ∧ s.path.memCycle.isSome then
        if k + 1 < (s.link i).spaceLeft then .next (s.drivePad (k + 1)) else .next (s.padsWritten i)
      else .next s
    | _, _ => .next s

/-- BURST_END (R30): a burst with neither a record nor a pad run in flight and no memory cycle driven releases the
port. The completions carry this out themselves when a burst ends (log entry 4). -/
def execBurstEnd (s : State) : Host.Outcome State Fault Refusal :=
  if s.arb.owner = some .drain ∧ s.path.memCycle = none ∧ s.drain.recordInFlight = none ∧
      s.drain.padInFlight = none then
    .next s.releasePort
  else .next s

/-- FLUSH_COMPLETE (R143): the mark's count is 0 and no record or pad run is in flight. The writes and FLUSH carry
this out themselves (log entry 4). -/
def execFlushComplete (s : State) : Host.Outcome State Fault Refusal :=
  if s.flushDue ∧ s.drain.recordInFlight = none ∧ s.drain.padInFlight = none then
    .next s.completeFlush.arbitrate
  else .next s

/-- ABORT_CARRIED_OUT (R140): an abort is pending and nothing is in flight. The completions carry this out
themselves (log entry 4). -/
def execAbortCarriedOut (s : State) : Host.Outcome State Fault Refusal :=
  if s.drain.abortPending ∧ s.drain.recordInFlight = none ∧ s.drain.padInFlight = none then
    .next s.carryOutAbort.arbitrate
  else .next s

/-- LOSS_PLACEMENT (R115): the loss count is nonzero and a slot is free. The events that free a slot carry this
out themselves (log entry 4). -/
def execLossPlacement (s : State) : Host.Outcome State Fault Refusal :=
  .next s.placeLoss.arbitrate

end Sys2Proof.Machine
end

