-- ==== Sys2Proof/Machine/LineEvents.lean ====
section
/-! DEFINITION. Events of the SNAP, RST# and TCLK lines and of the Timebase (spec/08, spec/09), and the expiry of a
settle entry. An event that cannot occur in the present state is not taken (log entry 2). -/

namespace Sys2Proof.Machine

/-- A SNAP edge taken in RUN starts a freeze (R156): the SNAP record, then FREEZING with a SNAP mark counting the
depth, or FROZEN with an incomplete freeze when the drain is not RUNNING (R158). -/
def State.startFreeze (s : State) : State :=
  let recorded := s.createRecord
    { kind := .snap, valueA := BitVec.ofNat 16 s.depth, valueB := 0 }
  if s.drain.state = .running then
    { recorded with
      monitor := { recorded.monitor with state := .freezing }
      drain := { recorded.drain with mark := some ⟨recorded.depth, .snap⟩ } }
  else recorded.endFreeze .incomplete

/-- SNAP_EDGE (R155, R156): the line rises; acted on in RUN only. A line already high gives no edge. -/
def execSnapEdge (s : State) : Host.Outcome State Fault Refusal :=
  if s.monitor.snapHigh then .next s
  else
    let risen := { s with monitor := { s.monitor with snapHigh := true } }
    if s.monitor.state = .run then .next risen.startFreeze.arbitrate else .next risen

/-- SNAP_LINE_FALLS (R155): the detector sees the line low. -/
def execSnapLineFalls (s : State) : Host.Outcome State Fault Refusal :=
  .next { s with monitor := { s.monitor with snapHigh := false } }

/-- POWER_ON_RESET (R160, R162): a full reset with cause POWER; the RST line function returns to FULL (Table
10-9), and the lines have the levels given. -/
def execPowerOnReset (snapHigh rstHigh : Bool) (s : State) : Host.Outcome State Fault Refusal :=
  let t := s.fullReset .power
  .next { t with
    monitor := { t.monitor with snapHigh := snapHigh, rstHigh := rstHigh }
    port := { t.port with rstPartial := false } }

/-- FULL_RESET (R160, R162): RST# falls with the line function FULL. -/
def execFullReset (s : State) : Host.Outcome State Fault Refusal :=
  if s.monitor.rstHigh ∧ s.port.rstPartial = false then
    let t := s.fullReset .lineFull
    .next { t with monitor := { t.monitor with rstHigh := false } }
  else .next s

/-- PARTIAL_RESET (R160, R163): RST# falls with the line function PARTIAL. -/
def execPartialReset (s : State) : Host.Outcome State Fault Refusal :=
  if s.monitor.rstHigh ∧ s.port.rstPartial = true then
    let t := s.partialReset
    .next { t with monitor := { t.monitor with rstHigh := false } }
  else .next s

/-- RST_LINE_RISES (R160): the line is seen high and its next fall can take a line reset. -/
def execRstLineRises (s : State) : Host.Outcome State Fault Refusal :=
  .next { s with monitor := { s.monitor with rstHigh := true } }

/-- TCLK_PERIOD (R165): the prescale count increases by 1; an increase that would make it equal to the divisor
returns it to 0 and takes a base tick. -/
def execTclkPeriod (s : State) : Host.Outcome State Fault Refusal :=
  if s.time.count + 1 = s.time.divisor then .next s.tick
  else .next { s with time := { s.time with count := s.time.count + 1 } }

/-- BASE_TICK (R166): the prescale count has reached the divisor. The command stands for the TCLK periods up to
that tick (log entry 5). -/
def execBaseTick (s : State) : Host.Outcome State Fault Refusal :=
  .next s.tick

/-- DECAY_TICK (R96, R167): the decay countdown stands at 0; it is loaded again and every accumulator decays. The
base tick carries this out itself (log entry 4). -/
def execDecayTick (s : State) : Host.Outcome State Fault Refusal :=
  if s.time.countdown = 0 then
    .next ({ s with time := { s.time with countdown := s.time.decayDivider } }).decayAll
  else .next s

/-- SETTLE_EXPIRY (R76): the first entry whose remaining ticks are 0 leaves the table and is recorded. The base tick
carries this out itself (log entry 4). -/
def execSettleExpiry (s : State) : Host.Outcome State Fault Refusal :=
  match s.settle.find? fun e => e.remaining = 0 with
  | none => .next s
  | some e => .next ((s.dropEntry e.addr).expireEntry e).arbitrate

end Sys2Proof.Machine
end

