-- ==== Sys2Proof/Machine/MonitorCommands.lean ====
section
/-! DEFINITION. The monitor commands, the timebase command and the RESET command (spec/08, spec/09). -/

namespace Sys2Proof.Machine

/-- A region at ARM (R15): a HELD one begins to act. -/
def Region.armed (x : Region) : Region := if x.state = .held then x.activate else x

/-- ARM passing its checks (R150, R15): RUN, every HELD region begins to act, and the Prime Engine steps. -/
def State.armMonitor (s : State) : State :=
  ((({ s with monitor := { s.monitor with state := .run } }).mapRegions
      Region.armed).primeStep).arbitrate

/-- ARM: STANDBY, then the SNAP line low (R150). -/
def armEffect (_ops : List Byte) (s : State) : State × ResultCode :=
  if s.monitor.state ≠ .standby then (s, .badState)
  else if s.monitor.snapHigh then (s, .snapActive)
  else (s.armMonitor, .ok)

/-- ARM. -/
def execArm (act : FrameAct) (s : State) : Host.Outcome State Fault Refusal :=
  .next (runFrame (plainFrame 0x30 armEffect) [] act s)

/-- A region at DISARM (R16): an acting one becomes HELD with its integrator cleared. -/
def Region.disarm (x : Region) : Region :=
  if x.acting then { x.clearIntegrator with state := .held } else x

/-- The shadow words of every acting region become invalid (R16, R53). -/
def State.invalidateActing (s : State) : State :=
  (List.finRange 32).foldl (fun t r => if (s.region r).acting then t.invalidate r else t) s

/-- A flush mark at DISARM: one of origin SNAP becomes absent (R144, R152). -/
def dropSnapMark : Option FlushMark → Option FlushMark
  | none => none
  | some m => if m.origin = .snap then none else some m

/-- DISARM out of STANDBY (R152): acting regions become HELD, the Settle Table is emptied, a prime read is
cancelled, a SNAP flush mark becomes absent with no hand-off. -/
def State.disarmMonitor (s : State) : State :=
  let held := s.invalidateActing.mapRegions Region.disarm
  let stood := { held with
    monitor := { held.monitor with state := .standby }
    settle := []
    drain := { held.drain with mark := dropSnapMark held.drain.mark } }
  ((stood.cancelRead fun (r : Fin 32) => (s.region r).state == RegionState.priming).primeLeft).arbitrate

/-- DISARM (R152). -/
def disarmEffect (_ops : List Byte) (s : State) : State × ResultCode :=
  if s.monitor.state = .standby then (s, .badState) else (s.disarmMonitor, .ok)

/-- DISARM. -/
def execDisarm (act : FrameAct) (s : State) : Host.Outcome State Fault Refusal :=
  .next (runFrame (plainFrame 0x31 disarmEffect) [] act s)

/-- RESUME: FROZEN, then the SNAP line low (R154). -/
def resumeEffect (_ops : List Byte) (s : State) : State × ResultCode :=
  if s.monitor.state ≠ .frozen then (s, .badState)
  else if s.monitor.snapHigh then (s, .snapActive)
  else ({ s with monitor := { s.monitor with state := .run } }, .ok)

/-- RESUME. -/
def execResume (act : FrameAct) (s : State) : Host.Outcome State Fault Refusal :=
  .next (runFrame (plainFrame 0x32 resumeEffect) [] act s)

/-- A prescale or divider operand: the value 0 stands for the whole range (R168). -/
def zeroMeans (whole n : Nat) : Nat := if n = 0 then whole else n

/-- SET_TIMEBASE (R168). -/
def setTimebaseEffect (ops : List Byte) (s : State) : State × ResultCode :=
  match ops with
  | p1 :: p0 :: divider :: step :: _ =>
    if s.monitor.state ≠ .standby then (s, .badState)
    else if step = 0 then (s, .badRange)
    else
      ({ s with time := { s.time with
          divisor := zeroMeans 65536 (wordOf p1 p0).toNat
          count := 0
          decayDivider := zeroMeans 256 divider.toNat
          countdown := zeroMeans 256 divider.toNat
          decayStep := step } }, .ok)
  | _ => (s, .shortFrame)

/-- SET_TIMEBASE. -/
def execSetTimebase (ops : List Byte) (act : FrameAct) (s : State) : Host.Outcome State Fault Refusal :=
  .next (runFrame (plainFrame 0x40 setTimebaseEffect) ops act s)

/-- RESET (R160): the full reset is taken in the event in which the frame takes effect, with result OK. -/
def resetEffect (_ops : List Byte) (s : State) : State × ResultCode := (s.fullReset .command, .ok)

/-- RESET. -/
def execReset (act : FrameAct) (s : State) : Host.Outcome State Fault Refusal :=
  .next (runFrame (plainFrame 0x4F resetEffect) [] act s)

end Sys2Proof.Machine
end

