-- ==== Sys2Proof/Machine/PortCommands.lean ====
section
/-! DEFINITION. Commands of the Configuration Port, the Notice Unit and the shadow readout (spec/10, section 3.6):
status and notices, options, the shadow pointer, and frames that are no command. -/

namespace Sys2Proof.Machine

/-- READ_STATUS's 19 bytes, all taken at one moment (Table 10-4, R178). -/
def State.statusBytes (s : State) : List Byte :=
  wordBytes Config.identification ++
  [Config.revision, s.monitor.cause.code, s.monitor.state.code, s.drain.state.code,
    BitVec.ofNat 8 s.drain.pointer.val, linkCode s.drain.current, BitVec.ofNat 8 s.depth] ++
  wordBytes s.queue.lossCount ++ wordBytes s.queue.nextSeq ++ wordBytes s.time.stamp ++
  countBytes (freeShadowWords s.alloc) ++ countBytes (largestFree 0 s.alloc)

/-- READ_STATUS (R178): the data is taken when the part begins to shift it. -/
def readStatusFrame : FrameSpec where
  command := some 0x01
  unit := fun f s => if f.units = 0 then some s.statusBytes else none
  effect := fun _ s => (s, .ok)

/-- READ_STATUS. -/
def execReadStatus (act : FrameAct) (s : State) : Host.Outcome State Fault Refusal :=
  .next (runFrame readStatusFrame [] act s)

/-- READ_NOTICE's four bytes (Table 10-7). -/
def noticeData (flags : BitVec 11) (last : Option (Fin 8)) (c : Completeness) : List Byte :=
  wordBytes (flags.setWidth 16) ++ [linkCode last, c.code]

/-- READ_NOTICE (R181): latched when the command byte is received; with autoclear on, the flags set in the
latched value are cleared when the frame takes effect. -/
def readNoticeFrame : FrameSpec where
  command := some 0x02
  receive := fun _ s => .notices s.notices.flags s.notices.lastNotified s.notices.completeness
  unit := fun f _ =>
    match f.latch with
    | .notices flags last c => if f.units = 0 then some (noticeData flags last c) else none
    | _ => none
  effect := fun f s =>
    match f.latch with
    | .notices flags _ _ => (if s.port.autoclear then s.clearNotices flags else s, .ok)
    | _ => (s, .ok)

/-- READ_NOTICE. -/
def execReadNotice (act : FrameAct) (s : State) : Host.Outcome State Fault Refusal :=
  .next (runFrame readNoticeFrame [] act s)

/-- CLEAR_NOTICE (R182). -/
def clearNoticeEffect (ops : List Byte) (s : State) : State × ResultCode :=
  match ops with
  | hi :: lo :: _ => (s.clearNotices (noticeBits hi lo), .ok)
  | _ => (s, .shortFrame)

/-- CLEAR_NOTICE. -/
def execClearNotice (ops : List Byte) (act : FrameAct) (s : State) : Host.Outcome State Fault Refusal :=
  .next (runFrame (plainFrame 0x03 clearNoticeEffect) ops act s)

/-- SET_NOTICE_MASK (R183). -/
def setNoticeMaskEffect (ops : List Byte) (s : State) : State × ResultCode :=
  match ops with
  | hi :: lo :: _ => ({ s with notices := { s.notices with mask := noticeBits hi lo } }, .ok)
  | _ => (s, .shortFrame)

/-- SET_NOTICE_MASK. -/
def execSetNoticeMask (ops : List Byte) (act : FrameAct) (s : State) : Host.Outcome State Fault Refusal :=
  .next (runFrame (plainFrame 0x04 setNoticeMaskEffect) ops act s)

/-- SET_OPTIONS (R179): STANDBY first, then the ranges of burst limit and high mark; the five options are
installed together (Table 10-3 note 4). -/
def setOptionsEffect (ops : List Byte) (s : State) : State × ResultCode :=
  match ops with
  | flags :: burst :: high :: _ =>
    if s.monitor.state ≠ .standby then (s, .badState)
    else if burst.toNat < 1 ∨ 16 < burst.toNat ∨ high.toNat < 1 ∨ 64 < high.toNat then (s, .badRange)
    else
      (({ s with
          port := { s.port with
            parityCheck := flags.getLsbD 0
            autoclear := flags.getLsbD 1
            rstPartial := flags.getLsbD 2
            burstLimit := burst.toNat }
          queue := { s.queue with highMark := high.toNat } }), .ok)
  | _ => (s, .shortFrame)

/-- SET_OPTIONS. -/
def execSetOptions (ops : List Byte) (act : FrameAct) (s : State) : Host.Outcome State Fault Refusal :=
  .next (runFrame (plainFrame 0x41 setOptionsEffect) ops act s)

/-- SET_SHADOW_POINTER (R64). -/
def setShadowPointerEffect (ops : List Byte) (s : State) : State × ResultCode :=
  match ops with
  | hi :: lo :: _ =>
    if (wordOf hi lo).toNat < Config.shadowWords then
      ({ s with shadowPointer := (wordOf hi lo).setWidth 12 }, .ok)
    else (s, .badRange)
  | _ => (s, .shortFrame)

/-- SET_SHADOW_POINTER. -/
def execSetShadowPointer (ops : List Byte) (act : FrameAct) (s : State) : Host.Outcome State Fault Refusal :=
  .next (runFrame (plainFrame 0x42 setShadowPointerEffect) ops act s)

/-- The word count of READ_SHADOW, 1 to 64, else out of range (R65). -/
def shadowCount (n : Byte) : Option Nat :=
  if 1 ≤ n.toNat ∧ n.toNat ≤ Config.readShadowMax then some n.toNat else none

/-- The three bytes of one shadow word (Table 10-3): an invalid word reads as 0x0000 with flag 0x00 (R47, R65). -/
def shadowWordBytes (word : Option Word) : List Byte :=
  match word with
  | some v => wordBytes v ++ [0x01]
  | none => [0x00, 0x00, 0x00]

/-- READ_SHADOW (R65): each word's content is that held when the part begins to shift it; the pointer advances
by n when the frame takes effect. The judgement of the operand falls when it has been received (R173). -/
def readShadowFrame : FrameSpec where
  command := some 0x43
  operands := 1
  receive := fun ops _ =>
    match ops with
    | n :: _ => if (shadowCount n).isSome then .nothing else .refused .badRange
    | [] => .nothing
  unit := fun f s =>
    match f.ops with
    | n :: _ =>
      match shadowCount n with
      | some count =>
        if f.units < count then
          some (shadowWordBytes (shadowGet s.shadow ((s.shadowPointer + BitVec.ofNat 12 f.units).toNat)))
        else none
      | none => none
    | [] => none
  effect := fun f s =>
    match f.ops with
    | n :: _ =>
      match shadowCount n with
      | some count => ({ s with shadowPointer := s.shadowPointer + BitVec.ofNat 12 count }, .ok)
      | none => (s, .badRange)
    | [] => (s, .shortFrame)

/-- READ_SHADOW. -/
def execReadShadow (ops : List Byte) (act : FrameAct) (s : State) : Host.Outcome State Fault Refusal :=
  .next (runFrame readShadowFrame ops act s)

/-- A frame whose command byte is no code of Table 10-3 sets the result BAD_COMMAND; one whose command byte is
incomplete has no effect (R173), whichever row names its rise. -/
def badCommandFrame (command : Option Byte) : FrameSpec where
  command := command
  effect := fun _ s => (s, .badCommand)

/-- BAD_COMMAND. A known code is no BAD_COMMAND frame and is not taken (log entry 2). -/
def execBadCommand (command : Option Byte) (act : FrameAct) (s : State) : Host.Outcome State Fault Refusal :=
  if command.any knownCodes.contains then .next s
  else .next (runFrame (badCommandFrame command) [] act s)

end Sys2Proof.Machine
end

