-- ==== Sys2Proof/Machine/RegionCommands.lean ====
section
/-! DEFINITION. The region commands (spec/01). -/

namespace Sys2Proof.Machine

/-- A region command's index and state checks (R10, R13, R14, R19 to R22): BAD_INDEX outside 0 to 31, BAD_STATE
for a record the command does not allow, else its effect with OK. -/
def State.regionCommand (s : State) (index : Byte) (allowed : Region → Bool) (effect : Fin 32 → State) :
    State × ResultCode :=
  match regionIndex index with
  | none => (s, .badIndex)
  | some r => if allowed (s.region r) then (effect r, .ok) else (s, .badState)

/-- STAGE_REGION (R4). -/
def stageRegionEffect (ops : List Byte) (s : State) : State × ResultCode :=
  match stagedConfig ops with
  | some c => ({ s with staging := c }, .ok)
  | none => (s, .shortFrame)

/-- STAGE_REGION. -/
def execStageRegion (ops : List Byte) (act : FrameAct) (s : State) : Host.Outcome State Fault Refusal :=
  .next (runFrame (plainFrame 0x10 stageRegionEffect) ops act s)

/-- The consistency check of a commit (R7). -/
def RegionConfig.consistent (c : RegionConfig) : Bool :=
  decide (c.base.toNat ≤ c.limit.toNat) &&
  (c.watch || c.verify || c.lock || c.tripThreshold != 0) &&
  (decide (1 ≤ c.weight.toNat) && decide (c.weight.toNat ≤ 15)) &&
  (c.tripThreshold == 0 || decide (c.alertThreshold.toNat ≤ c.tripThreshold.toNat)) &&
  (!c.shadowed || decide (c.size ≤ Config.shadowWords))

/-- The range meets a committed region other than the one at index `r` (R8). -/
def State.meetsRegion (s : State) (r : Fin 32) (c : RegionConfig) : Bool :=
  (List.finRange 32).any fun i =>
    decide (i ≠ r) && (s.region i).committed &&
      rangesMeet c.base.toNat c.limit.toNat (s.region i).cfg.base.toNat (s.region i).cfg.limit.toNat

/-- The range meets a READY or ACTIVE link's buffer (R8). -/
def State.meetsLiveLink (s : State) (c : RegionConfig) : Bool :=
  (List.finRange 8).any fun i =>
    (s.link i).liveBuffer &&
      rangesMeet c.base.toNat c.limit.toNat (s.link i).base.toNat (s.link i).lastWord

/-- The Shadow Allocation List after a commit of `c` to index `r`, none when no free run is long enough (R9 step
1, R50). -/
def State.allocate (s : State) (r : Fin 32) (c : RegionConfig) : Option (List Extent) :=
  let others := removeExtent r s.alloc
  if c.shadowed then
    (firstFit c.size 0 others).map fun first => insertExtent ⟨first, c.size, r⟩ others
  else some others

/-- COMMIT_REGION's checks in the order of Table 1-3 and its effect (R6, R9). -/
def commitRegionEffect (ops : List Byte) (s : State) : State × ResultCode :=
  match ops with
  | [] => (s, .shortFrame)
  | index :: _ =>
    match regionIndex index with
    | none => (s, .badIndex)
    | some r =>
      if (s.region r).enabled then (s, .badState)
      else if ¬s.staging.consistent then (s, .badRange)
      else if s.meetsRegion r s.staging ∨ (s.staging.shadowed ∧ s.meetsLiveLink s.staging) then (s, .overlap)
      else match s.allocate r s.staging with
        | none => (s, .noShadow)
        | some alloc => ({ s.setRegion r (Region.fresh .idle s.staging) with alloc := alloc }, .ok)

/-- COMMIT_REGION. -/
def execCommitRegion (ops : List Byte) (act : FrameAct) (s : State) : Host.Outcome State Fault Refusal :=
  .next (runFrame (plainFrame 0x11 commitRegionEffect) ops act s)

/-- READ_REGION's data for an index operand (R5, Table 10-5): a record, or the staging record for 0xFF. -/
def State.regionData (s : State) (index : Byte) : Option (List Byte) :=
  if index = 0xFF then some (regionBytes (Region.fresh .free s.staging) none)
  else (regionIndex index).map fun r => regionBytes (s.region r) ((s.extentOf r).map Extent.first)

/-- READ_REGION (R5), judged when its index has been received (R173); the data is that held when the part
begins to shift it. -/
def readRegionFrame : FrameSpec where
  command := some 0x12
  operands := 1
  receive := fun ops s =>
    match ops with
    | index :: _ => if (s.regionData index).isSome then .nothing else .refused .badIndex
    | [] => .nothing
  unit := fun f s =>
    match f.ops with
    | index :: _ => if f.units = 0 then s.regionData index else none
    | [] => none
  effect := fun f s =>
    match f.ops, f.latch with
    | [], _ => (s, .shortFrame)
    | _ :: _, .refused result => (s, result)
    | _ :: _, _ => (s, .ok)

/-- READ_REGION. -/
def execReadRegion (ops : List Byte) (act : FrameAct) (s : State) : Host.Outcome State Fault Refusal :=
  .next (runFrame readRegionFrame ops act s)

/-- ENABLE_REGION on an IDLE region (R10): HELD in STANDBY, else PRIMING or LIVE, and the engine steps when a
region enters PRIMING (R57). -/
def State.enableRegion (s : State) (r : Fin 32) : State :=
  if s.monitor.state = .standby then s.modRegion r fun x => { x with state := .held }
  else
    let active := s.modRegion r Region.activate
    (if (s.region r).cfg.shadowed then active.primeStep else active).arbitrate

/-- ENABLE_REGION. -/
def enableRegionEffect (ops : List Byte) (s : State) : State × ResultCode :=
  match ops with
  | [] => (s, .shortFrame)
  | index :: _ => s.regionCommand index (fun x => x.state == .idle) s.enableRegion

/-- ENABLE_REGION. -/
def execEnableRegion (ops : List Byte) (act : FrameAct) (s : State) : Host.Outcome State Fault Refusal :=
  .next (runFrame (plainFrame 0x13 enableRegionEffect) ops act s)

/-- DISABLE_REGION on an enabled region (R13): IDLE, its shadow words invalid, its settle entries dropped, its
integrator cleared, its prime read cancelled; a waiting prime claim is stepped again (R57). -/
def State.disableRegion (s : State) (r : Fin 32) : State :=
  let left := ((s.invalidate r).dropEntries r).modRegion r fun x => { x.clearIntegrator with state := .idle }
  if (s.region r).state = .priming then ((left.cancelRead fun q => q == r).primeLeft).arbitrate
  else left

/-- DISABLE_REGION. -/
def disableRegionEffect (ops : List Byte) (s : State) : State × ResultCode :=
  match ops with
  | [] => (s, .shortFrame)
  | index :: _ => s.regionCommand index Region.enabled s.disableRegion

/-- DISABLE_REGION. -/
def execDisableRegion (ops : List Byte) (act : FrameAct) (s : State) : Host.Outcome State Fault Refusal :=
  .next (runFrame (plainFrame 0x14 disableRegionEffect) ops act s)

/-- RELEASE_REGION on an IDLE region (R14): its extent leaves the list, its record becomes FREE. -/
def State.releaseRegion (s : State) (r : Fin 32) : State :=
  { s.setRegion r Region.freed with alloc := removeExtent r s.alloc }

/-- RELEASE_REGION. -/
def releaseRegionEffect (ops : List Byte) (s : State) : State × ResultCode :=
  match ops with
  | [] => (s, .shortFrame)
  | index :: _ => s.regionCommand index (fun x => x.state == .idle) s.releaseRegion

/-- RELEASE_REGION. -/
def execReleaseRegion (ops : List Byte) (act : FrameAct) (s : State) : Host.Outcome State Fault Refusal :=
  .next (runFrame (plainFrame 0x15 releaseRegionEffect) ops act s)

/-- SET_SENSE on a committed region (R19, R78). -/
def State.setSense (s : State) (rise fall : Word) (r : Fin 32) : State :=
  (s.modRegion r fun x => { x with cfg := { x.cfg with riseMask := rise, fallMask := fall } }).dropEntries r

/-- SET_SENSE. -/
def setSenseEffect (ops : List Byte) (s : State) : State × ResultCode :=
  match ops with
  | index :: r1 :: r0 :: f1 :: f0 :: _ =>
    s.regionCommand index Region.committed (s.setSense (wordOf r1 r0) (wordOf f1 f0))
  | _ => (s, .shortFrame)

/-- SET_SENSE. -/
def execSetSense (ops : List Byte) (act : FrameAct) (s : State) : Host.Outcome State Fault Refusal :=
  .next (runFrame (plainFrame 0x16 setSenseEffect) ops act s)

/-- CLEAR_TRIP on a committed region (R21). -/
def State.clearTrip (s : State) (r : Fin 32) : State :=
  s.modRegion r fun x => { x.clearIntegrator with refusalReported := false }

/-- CLEAR_TRIP. -/
def clearTripEffect (ops : List Byte) (s : State) : State × ResultCode :=
  match ops with
  | [] => (s, .shortFrame)
  | index :: _ => s.regionCommand index Region.committed s.clearTrip

/-- CLEAR_TRIP. -/
def execClearTrip (ops : List Byte) (act : FrameAct) (s : State) : Host.Outcome State Fault Refusal :=
  .next (runFrame (plainFrame 0x17 clearTripEffect) ops act s)

/-- CLEAR_COUNTS on a committed region (R22). -/
def State.clearCounts (s : State) (r : Fin 32) : State :=
  s.modRegion r fun x =>
    { x with
      changesRecorded := 0
      bouncesSuppressed := 0
      refusals := 0
      divergences := 0
      refusalReported := false }

/-- CLEAR_COUNTS. -/
def clearCountsEffect (ops : List Byte) (s : State) : State × ResultCode :=
  match ops with
  | [] => (s, .shortFrame)
  | index :: _ => s.regionCommand index Region.committed s.clearCounts

/-- CLEAR_COUNTS. -/
def execClearCounts (ops : List Byte) (act : FrameAct) (s : State) : Host.Outcome State Fault Refusal :=
  .next (runFrame (plainFrame 0x18 clearCountsEffect) ops act s)

/-- The new thresholds leave the region a function and keep the alert threshold at or below a nonzero trip
threshold (R20). -/
def RegionConfig.thresholdsFit (c : RegionConfig) (alert trip : Word) : Bool :=
  if trip = 0 then c.watch || c.verify || c.lock else decide (alert.toNat ≤ trip.toNat)

/-- A region whose alert flag is judged against its alert threshold (R100): a set flag is cleared when the
threshold is 0 or above the accumulator. -/
def Region.rejudgeAlert (x : Region) : Region :=
  { x with alertFlag := x.alertFlag && (x.cfg.alertThreshold != 0 &&
      decide (x.cfg.alertThreshold.toNat ≤ x.accumulator.toNat)) }

/-- SET_THRESHOLDS on a committed region (R20, R100). -/
def State.setThresholds (s : State) (alert trip : Word) (r : Fin 32) : State :=
  let set := s.modRegion r fun x =>
    { x with cfg := { x.cfg with alertThreshold := alert, tripThreshold := trip } }
  if trip = 0 then set.modRegion r Region.clearIntegrator
  else ((set.judgeTrip r none).modRegion r Region.rejudgeAlert).arbitrate

/-- SET_THRESHOLDS: index, then FREE, then the range of the thresholds (R20). -/
def setThresholdsEffect (ops : List Byte) (s : State) : State × ResultCode :=
  match ops with
  | index :: a1 :: a0 :: t1 :: t0 :: _ =>
    match regionIndex index with
    | none => (s, .badIndex)
    | some r =>
      if (s.region r).state = .free then (s, .badState)
      else if (s.region r).cfg.thresholdsFit (wordOf a1 a0) (wordOf t1 t0) then
        (s.setThresholds (wordOf a1 a0) (wordOf t1 t0) r, .ok)
      else (s, .badRange)
  | _ => (s, .shortFrame)

/-- SET_THRESHOLDS. -/
def execSetThresholds (ops : List Byte) (act : FrameAct) (s : State) : Host.Outcome State Fault Refusal :=
  .next (runFrame (plainFrame 0x19 setThresholdsEffect) ops act s)

end Sys2Proof.Machine
end

