-- ==== Sys2Proof/Machine/Dispatch.lean ====
section
/-! DEFINITION. exec: one arm per command of the table, each one call of its meaning. -/

namespace Sys2Proof.Machine

def exec (i : Instr) (s : State) : Host.Outcome State Fault Refusal :=
  match i with
  | .readStatus act => Sys2Proof.Machine.execReadStatus act s
  | .readNotice act => Sys2Proof.Machine.execReadNotice act s
  | .clearNotice ops act => Sys2Proof.Machine.execClearNotice ops act s
  | .setNoticeMask ops act => Sys2Proof.Machine.execSetNoticeMask ops act s
  | .stageRegion ops act => Sys2Proof.Machine.execStageRegion ops act s
  | .commitRegion ops act => Sys2Proof.Machine.execCommitRegion ops act s
  | .readRegion ops act => Sys2Proof.Machine.execReadRegion ops act s
  | .enableRegion ops act => Sys2Proof.Machine.execEnableRegion ops act s
  | .disableRegion ops act => Sys2Proof.Machine.execDisableRegion ops act s
  | .releaseRegion ops act => Sys2Proof.Machine.execReleaseRegion ops act s
  | .setSense ops act => Sys2Proof.Machine.execSetSense ops act s
  | .clearTrip ops act => Sys2Proof.Machine.execClearTrip ops act s
  | .clearCounts ops act => Sys2Proof.Machine.execClearCounts ops act s
  | .setThresholds ops act => Sys2Proof.Machine.execSetThresholds ops act s
  | .loadLink ops act => Sys2Proof.Machine.execLoadLink ops act s
  | .readLink ops act => Sys2Proof.Machine.execReadLink ops act s
  | .startDrain ops act => Sys2Proof.Machine.execStartDrain ops act s
  | .startDrainContinue act => Sys2Proof.Machine.execStartDrainContinue act s
  | .stopDrain act => Sys2Proof.Machine.execStopDrain act s
  | .flush act => Sys2Proof.Machine.execFlush act s
  | .abortDrain act => Sys2Proof.Machine.execAbortDrain act s
  | .popEvent act => Sys2Proof.Machine.execPopEvent act s
  | .discardQueue act => Sys2Proof.Machine.execDiscardQueue act s
  | .unloadLink ops act => Sys2Proof.Machine.execUnloadLink ops act s
  | .arm act => Sys2Proof.Machine.execArm act s
  | .disarm act => Sys2Proof.Machine.execDisarm act s
  | .resume act => Sys2Proof.Machine.execResume act s
  | .setTimebase ops act => Sys2Proof.Machine.execSetTimebase ops act s
  | .setOptions ops act => Sys2Proof.Machine.execSetOptions ops act s
  | .setShadowPointer ops act => Sys2Proof.Machine.execSetShadowPointer ops act s
  | .readShadow ops act => Sys2Proof.Machine.execReadShadow ops act s
  | .reset act => Sys2Proof.Machine.execReset act s
  | .badCommand command act => Sys2Proof.Machine.execBadCommand command act s
  | .masterCycleArrives moe mwe addr enables data parity => Sys2Proof.Machine.execMasterCycleArrives moe mwe addr enables data parity s
  | .masterCycleWithdrawn => Sys2Proof.Machine.execMasterCycleWithdrawn s
  | .masterCycleEnds => Sys2Proof.Machine.execMasterCycleEnds s
  | .writeGrant => Sys2Proof.Machine.execWriteGrant s
  | .readGrant => Sys2Proof.Machine.execReadGrant s
  | .primeGrant => Sys2Proof.Machine.execPrimeGrant s
  | .drainGrant => Sys2Proof.Machine.execDrainGrant s
  | .writeCompletion => Sys2Proof.Machine.execWriteCompletion s
  | .readCompletion data parity => Sys2Proof.Machine.execReadCompletion data parity s
  | .primeReadCompletion data parity => Sys2Proof.Machine.execPrimeReadCompletion data parity s
  | .drainWriteCompletion => Sys2Proof.Machine.execDrainWriteCompletion s
  | .recordWriteCompletion => Sys2Proof.Machine.execRecordWriteCompletion s
  | .padWriteCompletion => Sys2Proof.Machine.execPadWriteCompletion s
  | .burstEnd => Sys2Proof.Machine.execBurstEnd s
  | .snapEdge => Sys2Proof.Machine.execSnapEdge s
  | .snapLineFalls => Sys2Proof.Machine.execSnapLineFalls s
  | .powerOnReset snapHigh rstHigh => Sys2Proof.Machine.execPowerOnReset snapHigh rstHigh s
  | .fullReset => Sys2Proof.Machine.execFullReset s
  | .partialReset => Sys2Proof.Machine.execPartialReset s
  | .baseTick => Sys2Proof.Machine.execBaseTick s
  | .decayTick => Sys2Proof.Machine.execDecayTick s
  | .settleExpiry => Sys2Proof.Machine.execSettleExpiry s
  | .flushComplete => Sys2Proof.Machine.execFlushComplete s
  | .abortCarriedOut => Sys2Proof.Machine.execAbortCarriedOut s
  | .lossPlacement => Sys2Proof.Machine.execLossPlacement s
  | .tclkPeriod => Sys2Proof.Machine.execTclkPeriod s
  | .rstLineRises => Sys2Proof.Machine.execRstLineRises s

end Sys2Proof.Machine
end

