-- ==== Sys2Proof/Safety.lean ====
section
/-! DEFINITION. What counts as a safe run: the facts the spec says hold of the block at every moment, as predicates
on State, and the words the statements about commands share. -/

namespace Sys2Proof.Machine

/-! ### Words of the statements -/

/-- The commands of a list, one after another, stopping at the first that gives no next state. -/
def runCommands : List Instr → State → Host.Outcome State Fault Refusal
  | [], s => .next s
  | c :: rest, s =>
    match exec c s with
    | .next t => runCommands rest t
    | .fault r => .fault r
    | .refused r => .refused r

/-- A frame with this command byte is in progress, and its operand bytes received in full are `ops` (R172). -/
def State.receiving (s : State) (code : Byte) (ops : List Byte) : Prop :=
  ∃ f, s.port.frame = some f ∧ f.command = some code ∧ f.ops = ops

/-- The state in which a frame has ended with `result` and nothing else has changed (R173). -/
def State.frameEnded (s : State) (result : ResultCode) : State :=
  { s with port := s.port.ended result }

/-- Byte `k` that a frame begun in `s` shifts out when its response data is `data`: the summary status byte, the last
result code, the data, then 0x00 (R172). -/
def State.byteOut (s : State) (data : List Byte) (k : Nat) : Byte :=
  ([s.statusByte, s.port.lastResult.code] ++ data).getD k 0

/-- The port after a whole frame of `n` bytes, begun in `s`, that answers `data` and ends with `result` (R172, R173):
the byte after the last is already begun. -/
def State.exchanged (s : State) (data : List Byte) (n : Nat) (result : ResultCode) : Port :=
  { s.port with
    selected := false
    frame := none
    clock := false
    bits := 0
    out := s.byteOut data n
    sent := (List.range n).map (s.byteOut data)
    lastResult := result }

/-- The port stands between two bytes of a frame: CFG_CS# is low, CFG_CLK is low and no bit of the present byte has
been shifted in (R172). -/
def State.betweenBytes (s : State) : Prop :=
  s.port.selected = true ∧ s.port.clock = false ∧ s.port.bits = 0

/-- What every reset leaves of the Cycle Path, the arbiter and the Prime Engine (R28, R44, R45, R56): a memory
cycle in flight runs on under its owner, a master cycle not completed stays, a prime read in flight is
cancelled. -/
def State.pathReset (s t : State) : Prop :=
  t.path.memCycle = s.path.memCycle ∧
  t.path.cycle = s.path.cycle.filter (fun c => c.phase ≠ .completed) ∧ t.path.clashReported = false ∧
  t.arb.owner = (if s.path.memCycle.isSome then s.arb.owner else none) ∧
  t.arb.burstCount = 0 ∧ t.arb.lastBackground = .drain ∧
  t.prime.served = none ∧ t.prime.claim = false ∧
  t.prime.read = s.prime.read.map (fun p => { p with cancelled := true })

/-- How many operand bytes Table 10-3 gives a command code; 0 for a code without operands. -/
def operandBytes (code : Byte) : Nat :=
  if code = 0x03 then 2 else if code = 0x04 then 2 else if code = 0x10 then 17 else if code = 0x11 then 1
  else if code = 0x12 then 1 else if code = 0x13 then 1 else if code = 0x14 then 1 else if code = 0x15 then 1
  else if code = 0x16 then 5 else if code = 0x17 then 1 else if code = 0x18 then 1 else if code = 0x19 then 5
  else if code = 0x20 then 8 else if code = 0x21 then 1 else if code = 0x22 then 1 else if code = 0x28 then 1
  else if code = 0x40 then 4 else if code = 0x41 then 3 else if code = 0x42 then 2 else if code = 0x43 then 1
  else 0

/-- What every full reset leaves (R24, R28, R44, R45, R47, R51, R56, R64, R81, R117, R123, R125, R148, R162, R170,
R185, Table 7-3, Table 10-9): `s` is the state before, `t` the state after. -/
def State.fullyReset (s t : State) (cause : ResetCause) : Prop :=
  (∀ r : Fin 32, t.region r = Region.freed) ∧ t.staging = RegionConfig.zero ∧
  t.shadow = [] ∧ t.alloc = [] ∧ t.shadowPointer = 0 ∧ t.settle = [] ∧
  t.queue = { records := [], nextSeq := 0, lossCount := 0, firstLost := 0, highMark := 48 } ∧
  (∀ i : Fin 8, t.link i = Link.unloaded) ∧
  (t.drain.state = .stopped ∧ t.drain.current = none ∧ t.drain.pointer = 0 ∧ t.drain.mark = none ∧
    t.drain.recordInFlight = none ∧ t.drain.padInFlight = none ∧ t.drain.abortPending = false) ∧
  t.monitor.state = .standby ∧ t.monitor.cause = cause ∧
  t.time = { divisor := 1000, count := 0, stamp := 0, decayDivider := 16, countdown := 16, decayStep := 1 } ∧
  (t.port.frame = none ∧ t.port.lastResult = .ok ∧ t.port.parityCheck = true ∧ t.port.autoclear = false ∧
    t.port.burstLimit = 4) ∧
  t.notices = { flags := 0, mask := 0, lastNotified := none, completeness := .none } ∧
  State.pathReset s t

/-- Link `i` of `s` has closed with this reason and the drain has advanced (R137, R138): `t` is the state after. What
becomes of a flush mark is `State.markJudged`. -/
def State.closedAndAdvanced (s t : State) (i : Fin 8) (reason : CloseReason) : Prop :=
  let l := s.link i
  let n := l.next
  t.link i = { l with state := .done, closeReason := some reason } ∧
  (l.notify → t.noticeSet .linkDone ∧ t.notices.lastNotified = some i) ∧
  (l.notify = false → t.notices.lastNotified = s.notices.lastNotified) ∧
  (l.endOfChain → t.drain.state = .ended ∧ t.drain.current = none ∧ t.drain.pointer = s.drain.pointer ∧
    t.noticeSet .chainEnded ∧ ∀ j, j ≠ i → t.link j = s.link j) ∧
  (l.endOfChain = false → t.drain.pointer = n ∧
    (s.drain.state = .running → n ≠ i → (s.link n).state = .ready →
      t.drain.state = .running ∧ t.drain.current = some n ∧ t.link n = { s.link n with state := .active } ∧
      ∀ j, j ≠ i → j ≠ n → t.link j = s.link j) ∧
    (s.drain.state = .running → (n = i ∨ (s.link n).state ≠ .ready) →
      t.drain.state = .starved ∧ t.drain.current = none ∧ t.noticeSet .starved ∧
      ∀ j, j ≠ i → t.link j = s.link j) ∧
    (s.drain.state ≠ .running → t.drain.state = s.drain.state ∧ t.drain.current = none ∧
      ∀ j, j ≠ i → t.link j = s.link j))

/-- A freeze of `s` has ended in `t`: the monitor is FROZEN and SNAP_DONE is set with this completeness (R157,
R158). -/
def State.frozenWith (s t : State) (c : Completeness) : Prop :=
  t.monitor = { s.monitor with state := .frozen } ∧ t.noticeSet .snapDone ∧ t.notices.completeness = c

/-- What becomes of a flush mark when link `i` of `s` closes and the drain advances (R143, R144, R157, R158): one at 0
completes, a SNAP one ending the freeze complete; one still counting ends without completion when the advance ends or
starves the drain, a SNAP one ending the freeze incomplete; else it stands. -/
def State.markJudged (s t : State) (i : Fin 8) (mark : Option FlushMark) : Prop :=
  let l := s.link i
  let leaves := l.endOfChain = true ∨
    s.drain.state = .running ∧ (l.next = i ∨ (s.link l.next).state ≠ .ready)
  (mark = none → t.drain.mark = none) ∧
  (∀ m, mark = some m →
    (m.remaining = 0 ∨ leaves → t.drain.mark = none) ∧
    (m.remaining ≠ 0 → ¬leaves → t.drain.mark = some m) ∧
    (m.origin = .snap → m.remaining = 0 → State.frozenWith s t .complete) ∧
    (m.origin = .snap → m.remaining ≠ 0 → leaves → State.frozenWith s t .incomplete)) ∧
  ((∀ m, mark = some m → m.origin = .snap → m.remaining ≠ 0 ∧ ¬leaves) →
    t.monitor = s.monitor ∧ t.notices.completeness = s.notices.completeness)

/-- The word address lies in the buffer of the link (R125). -/
def Link.covers (l : Link) (a : Addr) : Prop := l.base.toNat ≤ a.toNat ∧ a.toNat ≤ l.lastWord

/-! ### The Event Queue -/

/-- At most 64 records, every one intact (R108, R112), and losses pending only while the queue is full (R115,
R178). -/
def State.queueSound (s : State) : Prop :=
  s.depth ≤ 64 ∧ (s.queue.lossCount ≠ 0 → s.depth = 64) ∧
    ∀ r ∈ s.queue.records, xorWords r.words = 0

/-! ### Options and Timebase -/

/-- The options and the Timebase stay in their ranges (R28, R117, R165, R179). -/
def State.rangesSound (s : State) : Prop :=
  (1 ≤ s.port.burstLimit ∧ s.port.burstLimit ≤ 16) ∧ s.arb.burstCount ≤ 16 ∧
  (1 ≤ s.queue.highMark ∧ s.queue.highMark ≤ 64) ∧
  s.time.divisor ≤ 65536 ∧ s.time.count < s.time.divisor ∧
  s.time.decayDivider ≤ 256 ∧ (1 ≤ s.time.countdown ∧ s.time.countdown ≤ s.time.decayDivider) ∧
  s.time.decayStep ≠ 0

/-- The port (R172): a frame is in progress only while CFG_CS# is low, and the bits of the present byte are at most 8,
all 8 only until CFG_CLK falls. -/
def State.portSound (s : State) : Prop :=
  (s.port.frame.isSome → s.port.selected) ∧
  (s.port.clock = true → 1 ≤ s.port.bits ∧ s.port.bits ≤ 8) ∧ (s.port.clock = false → s.port.bits ≤ 7)

/-! ### Regions and buffers -/

/-- Every word address belongs to at most one committed region (R8, R17). -/
def State.regionsApart (s : State) : Prop :=
  ∀ (i j : Fin 32) (a : Addr),
    (s.region i).committed → (s.region j).committed →
      (s.region i).cfg.contains a → (s.region j).cfg.contains a → i = j

/-- No word address lies both in a committed WATCH or VERIFY region and in a live buffer, and none in two live
buffers (R8, R128). -/
def State.buffersApart (s : State) : Prop :=
  ∀ (i : Fin 8) (a : Addr), (s.link i).liveBuffer → (s.link i).covers a →
    (∀ r : Fin 32, (s.region r).committed → (s.region r).cfg.shadowed → ¬(s.region r).cfg.contains a) ∧
    (∀ j : Fin 8, (s.link j).liveBuffer → (s.link j).covers a → i = j)

/-- An integrator is at zero with its flags clear unless its region acts on traffic with a nonzero trip threshold,
and an alert flag is set only at or above a nonzero alert threshold (R90, R97, R100). -/
def State.integratorsSound (s : State) : Prop :=
  ∀ r : Fin 32, let x := s.region r
    (¬(x.acting ∧ x.cfg.tripThreshold ≠ 0) →
      x.accumulator = 0 ∧ x.alertFlag = false ∧ x.tripLatch = false) ∧
    (x.alertFlag = true →
      x.cfg.alertThreshold ≠ 0 ∧ x.cfg.alertThreshold.toNat ≤ x.accumulator.toNat)

/-! ### Change detection -/

/-- The Settle Table (R70): at most 16 entries, no two for one word address, each with 1 to settle-time ticks left,
of a WATCH region that acts on traffic and contains the word, with a sensed change from confirmed to candidate; the
word's shadow word is valid and holds the candidate. -/
def State.settleSound (s : State) : Prop :=
  s.settle.length ≤ 16 ∧ (s.settle.map SettleEntry.addr).Nodup ∧
  ∀ e ∈ s.settle, let x := s.region e.region
    x.acting ∧ x.cfg.watch ∧ x.cfg.contains e.addr ∧ sensed x.cfg e.confirmed e.candidate ∧
      1 ≤ e.remaining ∧ e.remaining ≤ x.cfg.settleTime.toNat ∧
      (s.shadowIndex e.region e.addr).bind (shadowGet s.shadow) = some e.candidate

/-! ### The arbiter -/

/-- The arbiter (R29): a decided grant waits at a free port for a claim that still stands, and a free port with no
grant decided has no claim waiting. -/
def State.arbiterSound (s : State) : Prop :=
  (∀ c, s.arb.award = some c → s.arb.owner = none ∧ s.claims c) ∧
  (s.arb.owner = none → s.arb.award = none → s.decision = none)

/-! ### Monitor states, the Prime Engine and the Shadow Store -/

/-- The Prime Engine (R56, R57): it claims only with no read in flight and a served region in PRIMING, and a read
in flight that is not cancelled is of a word of a region in PRIMING (R60). -/
def State.primeSound (s : State) : Prop :=
  (s.prime.claim → s.prime.read = none ∧ ∃ r, s.prime.served = some r ∧ (s.region r).state = .priming) ∧
  (∀ p, s.prime.read = some p → p.cancelled = false →
    (s.region p.region).state = .priming ∧ (s.region p.region).cfg.contains p.addr)

/-- In STANDBY no region acts on traffic (R18, R85), and out of STANDBY no region is HELD (R10, R15). -/
def State.standbySound (s : State) : Prop :=
  (s.monitor.state = .standby → ∀ r : Fin 32, (s.region r).acting = false) ∧
  (s.monitor.state ≠ .standby → ∀ r : Fin 32, (s.region r).state ≠ .held)

/-- The Shadow Allocation List (R49): ascending disjoint extents within the 4096 indices, one for each committed
WATCH or VERIFY region and of its size, and no other. -/
def State.allocSound (s : State) : Prop :=
  s.alloc.Pairwise (fun e e' => e.first + e.length ≤ e'.first ∧ e.region ≠ e'.region) ∧
  (∀ e ∈ s.alloc, e.first + e.length ≤ Config.shadowWords ∧ (s.region e.region).committed ∧
    (s.region e.region).cfg.shadowed ∧ e.length = (s.region e.region).cfg.size) ∧
  (∀ r : Fin 32, (s.region r).committed →
    (s.region r).cfg.base.toNat ≤ (s.region r).cfg.limit.toNat ∧
    ((s.region r).cfg.shadowed → (s.extentOf r).isSome))

/-- The Shadow Store: the valid words are in canonical form, and each lies in the extent of a region that acts on
traffic (R47); every word of a LIVE region's extent is valid (R12, R59). -/
def State.shadowSound (s : State) : Prop :=
  Shadow.wf s.shadow = true ∧
  (∀ w ∈ s.shadow, ∃ e ∈ s.alloc, e.first ≤ w.1 ∧ w.1 < e.first + e.length ∧ (s.region e.region).acting) ∧
  ∀ e ∈ s.alloc, (s.region e.region).state = .live → ∀ k, k < e.length → (shadowGet s.shadow (e.first + k)).isSome

/-! ### The freeze and the flush mark -/

/-- The monitor is FREEZING exactly while a SNAP flush mark is present (R149, R157, R158); a mark is present only
while the drain is RUNNING (R144); an abort is pending only while it is STOPPED (R141). -/
def State.freezeSound (s : State) : Prop :=
  (s.monitor.state = .freezing ↔ ∃ m, s.drain.mark = some m ∧ m.origin = .snap) ∧
  (s.drain.mark.isSome → s.drain.state = .running) ∧
  (s.drain.abortPending → s.drain.state = .stopped)

/-- The SNAP completeness is none exactly while SNAP_DONE is clear (R180), and the clash-reported flag is set only
while CLASH is set (R36). -/
def State.noticesSound (s : State) : Prop :=
  (s.notices.completeness = .none ↔ s.noticeSet .snapDone = false) ∧
  (s.path.clashReported → s.noticeSet .clash)

/-! ### The drain -/

/-- The Chain Table (R126): exactly the current link is ACTIVE, the close reason is present exactly when DONE, and
whole records fit every buffer; an ACTIVE link with no pad run in flight has room for one more record (R136). -/
def State.linksSound (s : State) : Prop :=
  ∀ i : Fin 8, let l := s.link i
    (l.state = .active ↔ s.drain.current = some i) ∧
    (l.closeReason.isSome ↔ l.state = .done) ∧
    l.fill * 8 ≤ l.capacity.toNat ∧
    (l.state = .ready → 8 ≤ l.capacity.toNat ∧ l.fill = 0) ∧
    (l.state = .active → s.drain.padInFlight = none → (l.fill + 1) * 8 ≤ l.capacity.toNat)

/-- The Drain Engine (R132): RUNNING with a current link, none in STARVED and ENDED; a record or a pad run in
flight, never both, belongs to the current link and to the drain's hold of the port, and the record stands at the
head of the queue (R118, R135); an abort is pending only in STOPPED (R141); the drain's decided grant waits at a
free port for a claim that stands (R29); while a POP_EVENT frame that was not refused lasts, the drain neither runs
nor writes a record (R120). -/
def State.drainSound (s : State) : Prop :=
  (s.drain.state = .running → s.drain.current.isSome) ∧
  (s.drain.state = .starved ∨ s.drain.state = .ended → s.drain.current = none) ∧
  (s.drain.recordInFlight.isSome →
    s.drain.padInFlight = none ∧ s.drain.current.isSome ∧ s.arb.owner = some .drain ∧ 0 < s.depth) ∧
  (s.drain.padInFlight.isSome → s.drain.current.isSome ∧ s.arb.owner = some .drain) ∧
  (s.drain.abortPending → s.drain.state = .stopped) ∧
  (s.arb.award = some .drain → s.arb.owner = none ∧ s.drainClaims) ∧
  (∀ f, s.port.frame = some f → f.command = some 0x26 → f.latch ≠ .refused .busy →
    s.drain.state ≠ .running ∧ s.drain.recordInFlight = none)

end Sys2Proof.Machine
end

