-- ==== Sys2Proof/WellFormed.lean ====
section
/-! DEFINITION. When a command is well formed: it belongs to the row it is a constructor of. The machine is
total and gives an ill-formed command a next state too; the check says which row a frame or a bus event is. -/

namespace Sys2Proof

/-- A command that belongs to its row. Three rows restrict their operands: START_DRAIN with operand 0xFF is
the row START_DRAIN_CONTINUE (R133); BAD_COMMAND's byte is no code of Table 10-3 (R173); a master cycle has at
least one strobe asserted (R26: MCE# alone is not a cycle). -/
def Instr.wellFormed : Instr → Bool
  | .readStatus _ => true
  | .readNotice _ => true
  | .clearNotice _ _ => true
  | .setNoticeMask _ _ => true
  | .stageRegion _ _ => true
  | .commitRegion _ _ => true
  | .readRegion _ _ => true
  | .enableRegion _ _ => true
  | .disableRegion _ _ => true
  | .releaseRegion _ _ => true
  | .setSense _ _ => true
  | .clearTrip _ _ => true
  | .clearCounts _ _ => true
  | .setThresholds _ _ => true
  | .loadLink _ _ => true
  | .readLink _ _ => true
  | .startDrain ops _ => decide (ops.head? ≠ some 0xFF)
  | .startDrainContinue _ => true
  | .stopDrain _ => true
  | .flush _ => true
  | .abortDrain _ => true
  | .popEvent _ => true
  | .discardQueue _ => true
  | .unloadLink _ _ => true
  | .arm _ => true
  | .disarm _ => true
  | .resume _ => true
  | .setTimebase _ _ => true
  | .setOptions _ _ => true
  | .setShadowPointer _ _ => true
  | .readShadow _ _ => true
  | .reset _ => true
  | .badCommand none _ => true
  | .badCommand (some code) _ => !knownCodes.contains code
  | .masterCycleArrives moe mwe _ _ _ _ => moe || mwe
  | .masterCycleWithdrawn => true
  | .masterCycleEnds => true
  | .writeGrant => true
  | .readGrant => true
  | .primeGrant => true
  | .drainGrant => true
  | .writeCompletion => true
  | .readCompletion _ _ => true
  | .primeReadCompletion _ _ => true
  | .drainWriteCompletion => true
  | .recordWriteCompletion => true
  | .padWriteCompletion => true
  | .burstEnd => true
  | .snapEdge => true
  | .snapLineFalls => true
  | .powerOnReset _ _ => true
  | .fullReset => true
  | .partialReset => true
  | .baseTick => true
  | .decayTick => true
  | .settleExpiry => true
  | .flushComplete => true
  | .abortCarriedOut => true
  | .lossPlacement => true
  | .tclkPeriod => true
  | .rstLineRises => true

end Sys2Proof
end

