-- ==== Sys2Proof/Certificates/Slice0/Obligations.lean ====
section
/-! DEFINITION. The statements about the DL7420, for the provers: each is a proposition about exec, step or the
shared operations. A frame's statement speaks of its rise (`.finish`) with the operand bytes received; that a frame
in parts does what the whole frame does is FramePartsMakeTheWhole. -/

open Sys2Proof Sys2Proof.Machine

/-! ### The queue of commands -/

/-- One step is the command at the front of the queue, run with the queue's rest; on an empty queue the block idles
(log entry 1, the model's choice). -/
def Obligations.StepRunsFrontCommand : Prop :=
  (∀ (c : Instr) (rest : List Instr) (s : State),
    step { s with pending := c :: rest } = exec c { s with pending := rest }) ∧
  (∀ s : State, s.pending = [] → step s = .next s)

/-- Every command answers a next state in every state, and leaves the queue of commands alone. -/
def Obligations.EveryCommandAnswersNext : Prop :=
  ∀ (c : Instr) (s : State), ∃ t, exec c s = .next t ∧ t.pending = s.pending

/-- The bytes of a frame spell a well-formed command, and the bytes the host sends for that command are a prefix of
them that spells it again (Table 10-3, R173: bytes beyond the operands are ignored). -/
def Obligations.FrameDecodeAndEncodeAgree : Prop :=
  ∀ (bytes : List Byte) (act : FrameAct),
    (decodeFrame bytes act).wellFormed = true ∧
    ∃ sent, encodeFrame (decodeFrame bytes act) = some (sent, act) ∧ sent <+: bytes ∧
      decodeFrame sent act = decodeFrame bytes act

/-! ### Resets -/

/-- The state after power-on holds the values of Tables 8-4, 9-3 and 10-9 and the reset rules of each chapter, and
the facts that the invariants below speak of hold of it. -/
def Obligations.ResetHoldsSpecValuesAndIsSound : Prop :=
  State.fullyReset State.reset State.reset .power ∧
  State.reset.path.cycle = none ∧ State.reset.path.memCycle = none ∧ State.reset.path.mwait = false ∧
  State.reset.prime.read = none ∧ State.reset.port.rstPartial = false ∧ State.reset.port.selected = false ∧
  State.reset.atn = false ∧ State.reset.queueSound ∧ State.reset.rangesSound ∧ State.reset.portSound ∧
  State.reset.regionsApart ∧ State.reset.buffersApart ∧ State.reset.integratorsSound ∧ State.reset.settleSound ∧ State.reset.arbiterSound ∧ State.reset.primeSound ∧
  State.reset.standbySound ∧ State.reset.allocSound ∧ State.reset.shadowSound ∧ State.reset.freezeSound ∧
  State.reset.noticesSound ∧ State.reset.linksSound ∧ State.reset.drainSound

/-- The three full resets: power-on, the RESET command, and RST# falling with the line function FULL. The levels of
the lines are the operands of POWER_ON_RESET (log entry 9). A frame in progress ends without effect: 0x00 is shifted
out in every byte that follows, and nothing is taken at the rise of CFG_CS# (R174); within a byte the bits are 0 from
the first one not yet sampled, which is the model's choice (log entry 21). A RESET frame itself has ended. -/
def Obligations.FullResetsTakeSpecValues : Prop :=
  let restOfFrame (s t : State) : Prop := t.port.selected = s.port.selected ∧ t.port.clock = s.port.clock ∧
    t.port.bits = s.port.bits ∧ t.port.sent = s.port.sent ∧
    ∀ n : Fin 8, t.port.out.getLsbD (7 - n) = (decide (n.val < s.port.bits) && s.port.out.getLsbD (7 - n))
  (∀ (s : State) (snap rst : Bool), ∃ t, exec (.powerOnReset snap rst) s = .next t ∧
    State.fullyReset s t .power ∧ t.monitor.snapHigh = snap ∧ t.monitor.rstHigh = rst ∧
    t.port.rstPartial = false ∧ restOfFrame s t) ∧
  (∀ (s : State) (ops : List Byte), s.receiving 0x4F ops → ∃ t, exec (.reset .finish) s = .next t ∧
    State.fullyReset s t .command ∧ t.monitor.snapHigh = s.monitor.snapHigh ∧
    t.monitor.rstHigh = s.monitor.rstHigh ∧ t.port.rstPartial = s.port.rstPartial ∧ t.port.selected = false) ∧
  (∀ s : State, s.monitor.rstHigh = true → s.port.rstPartial = false → ∃ t, exec .fullReset s = .next t ∧
    State.fullyReset s t .lineFull ∧ t.monitor.snapHigh = s.monitor.snapHigh ∧ t.monitor.rstHigh = false ∧
    t.port.rstPartial = s.port.rstPartial ∧ restOfFrame s t) ∧
  (∀ (bytes : List Byte) (s : State), s.port.frame = none →
    (s.betweenBytes → exec (decodeFrame bytes .byte) s = .next { s with port := { s.port with
      sent := s.port.sent ++ [s.port.out], out := 0 } }) ∧
    exec (decodeFrame bytes .finish) s = .next { s with port := { s.port with selected := false } })

/-- RST# falling with the line function PARTIAL (R25, R47, R51, R81, R104, R124, R147, R163, R171, R174, R185): what
it keeps and what it discards. -/
def Obligations.PartialResetKeepsWhatSoftwareBuilt : Prop :=
  ∀ s : State, s.monitor.rstHigh = true → s.port.rstPartial = true → ∃ t, exec .partialReset s = .next t ∧
    (∀ r : Fin 32, t.region r = { s.region r with
      state := if (s.region r).state = .priming ∨ (s.region r).state = .live then .held else (s.region r).state
      accumulator := 0
      alertFlag := false
      tripLatch := false }) ∧
    t.staging = s.staging ∧ t.alloc = s.alloc ∧ t.shadowPointer = s.shadowPointer ∧
    t.shadow = [] ∧ t.settle = [] ∧
    t.queue = { records := [], nextSeq := 0, lossCount := 0, firstLost := 0, highMark := s.queue.highMark } ∧
    (∀ i : Fin 8, t.link i = if s.drain.current = some i then
        { s.link i with state := .done, closeReason := some .reset } else s.link i) ∧
    (t.drain.state = .stopped ∧ t.drain.current = none ∧ t.drain.pointer = s.drain.pointer ∧
      t.drain.mark = none ∧ t.drain.recordInFlight = none ∧ t.drain.padInFlight = none ∧
      t.drain.abortPending = false) ∧
    t.monitor = { state := .standby, snapHigh := s.monitor.snapHigh, rstHigh := false, cause := .linePartial } ∧
    t.time = s.time ∧ t.port = s.port ∧
    t.notices = { flags := 0, mask := s.notices.mask, lastNotified := none, completeness := .none } ∧
    State.pathReset s t ∧ t.pending = s.pending

/-- R161: each reset sets the cause of its own kind, nothing else changes it, and READ_STATUS reports it in its
fourth byte. A line reset is taken only with RST# seen high and its own line function, and a RESET frame in parts at
its rise. -/
def Obligations.ResetCauseChangesByResetsAlone : Prop :=
  (∀ (c : Instr) (s t : State), exec c s = .next t →
    t.monitor.cause = match c with
      | .powerOnReset _ _ => .power
      | .reset (.whole _) => if s.port.selected then s.monitor.cause else .command
      | .reset .finish => if (s.port.frame.bind Frame.command) = some 0x4F then .command else s.monitor.cause
      | .fullReset =>
        if s.monitor.rstHigh ∧ s.port.rstPartial = false then .lineFull else s.monitor.cause
      | .partialReset =>
        if s.monitor.rstHigh ∧ s.port.rstPartial = true then .linePartial else s.monitor.cause
      | _ => s.monitor.cause) ∧
  (∀ s : State, s.statusBytes[3]? = some (match s.monitor.cause with
    | .power => (0 : Byte) | .command => 1 | .lineFull => 2 | .linePartial => 3))

/-! ### Frames -/

/-- The bytes of a frame (R172, R173, R175). At the fall of CFG_CS# the summary status byte is taken as byte 0; when
the command byte has been received the last result code follows as byte 1; each further byte shifted in joins the
operands received, the ones listed and then 0x00 (log entry 7), and a command that returns no data sends 0x00 from
byte 2 on. -/
def Obligations.FrameOpensWithStatusAndResult : Prop :=
  (∀ (bytes : List Byte) (s : State), s.port.selected = false →
    exec (decodeFrame bytes .start) s = .next { s with port := { s.port with
      selected := true
      frame := some { command := none, ops := [], latch := .nothing, units := 0, data := [] }
      clock := false
      bits := 0
      out := s.statusByte
      sent := [] } }) ∧
  (∀ (code : Byte) (ops : List Byte) (s : State) (f : Frame), s.betweenBytes → s.port.frame = some f →
    f.command = none → f.ops = [] →
    ∃ latch, exec (decodeFrame (code :: ops) .byte) s = .next { s with port := { s.port with
      frame := some { f with command := some code, latch := latch }
      out := s.port.lastResult.code
      sent := s.port.sent ++ [s.port.out] } }) ∧
  (∀ (code : Byte) (ops : List Byte) (s : State) (f : Frame), s.betweenBytes → s.port.frame = some f →
    f.command = some code →
    ∃ t g b, exec (decodeFrame (code :: ops) .byte) s = .next t ∧
      t = { s with port := { s.port with
        frame := some g, out := t.port.out, sent := s.port.sent ++ [s.port.out] } } ∧
      g.command = some code ∧ g.ops = f.ops ++ [b] ∧ (f.ops.length < operandBytes code → b = ops.getD f.ops.length 0) ∧
      (f.data = [] → code ∉ ([0x01, 0x02, 0x12, 0x21, 0x26, 0x43] : List Byte) → t.port.out = 0))

/-- A frame taken in parts with nothing between them does what the whole frame does (R172, R173; the parts are log
entry 7): the fall of CFG_CS#, the bytes listed and any further ones, the rise. A byte is eight periods of CFG_CLK, and
in the nth of them CFG_DO has the nth bit of the byte shifted out, most significant first. -/
def Obligations.FramePartsMakeTheWhole : Prop :=
  (∀ (bytes sent : List Byte) (extra : Nat) (s : State), s.port.selected = false →
    encodeFrame (decodeFrame bytes (.whole extra)) = some (sent, .whole extra) →
    runCommands (decodeFrame bytes .start ::
      (List.replicate (sent.length + (if sent = [] then 0 else extra)) (decodeFrame bytes .byte) ++
        [decodeFrame bytes .finish])) s =
    exec (decodeFrame bytes (.whole extra)) s) ∧
  (∀ (bytes : List Byte) (s : State), s.betweenBytes →
    (∀ f, s.port.frame = some f → bytes ≠ [] ∧ (f.command = none ∨ f.command = bytes.head?)) →
    let periods (n : Nat) : List Instr :=
      (List.replicate n [decodeFrame bytes .clockRises, decodeFrame bytes .clockFalls]).flatten
    runCommands (periods 8) s = exec (decodeFrame bytes .byte) s ∧
    ∀ n : Fin 8, ∃ t, runCommands (periods n) s = .next t ∧
      t.cfgDo = some (s.port.out.getLsbD (7 - n))) ∧
  (∀ s : State, s.port.selected = false → s.cfgDo = none)

/-- Frames without effect (R173, R176): one whose command lacks operand bytes gives SHORT_FRAME, one whose command
byte is no code of Table 10-3 gives BAD_COMMAND and sends 0x00 from byte 2 on, and one whose command byte is incomplete
keeps the last result code; none changes anything else. -/
def Obligations.FramesWithoutEffect : Prop :=
  (∀ (code : Byte) (ops : List Byte) (s : State), ops.length < operandBytes code → s.receiving code ops →
    exec (decodeFrame (code :: ops) .finish) s = .next (s.frameEnded .shortFrame)) ∧
  (∀ (code : Byte) (ops : List Byte) (s : State), code ∉ knownCodes → s.receiving code ops →
    exec (.badCommand (some code) .finish) s = .next (s.frameEnded .badCommand)) ∧
  (∀ (code : Byte) (extra : Nat) (s : State), code ∉ knownCodes → s.port.selected = false →
    exec (.badCommand (some code) (.whole extra)) s = .next { s with
      port := s.exchanged [] (1 + extra) .badCommand }) ∧
  (∀ (bytes : List Byte) (f : Frame) (s : State), s.port.frame = some f → f.command = none →
    exec (decodeFrame bytes .finish) s = .next (s.frameEnded s.port.lastResult)) ∧
  (∀ (extra : Nat) (s : State), s.port.selected = false →
    exec (.badCommand none (.whole extra)) s = .next { s with port := s.exchanged [] 0 s.port.lastResult })

/-- A command refused under any code changes nothing but the frame and the last result code (R176). -/
def Obligations.RefusedFramesChangeNothing : Prop :=
  ∀ (bytes : List Byte) (s t : State), exec (decodeFrame bytes .finish) s = .next t →
    t.port.lastResult ≠ .ok →
    t = { s with port := { s.port with
      selected := t.port.selected, frame := t.port.frame, lastResult := t.port.lastResult } }

/-! ### Notices -/

/-- CLEAR_NOTICE clears the flags its operand names, with the side effects of R180 for SNAP_DONE and CLASH, and
changes nothing else but the result (R182). -/
def Obligations.ClearNoticeClearsNamedFlags : Prop :=
  ∀ (s : State) (hi lo : Byte) (rest : List Byte), s.receiving 0x03 (hi :: lo :: rest) →
    ∃ t, exec (.clearNotice (hi :: lo :: rest) .finish) s = .next t ∧
      (∀ n : Notice, t.noticeSet n = (s.noticeSet n && !(wordOf hi lo).getLsbD n.position)) ∧
      t = { s with
        notices := { s.notices with
          flags := t.notices.flags
          completeness :=
            if (s.noticeSet .snapDone) ∧ (wordOf hi lo).getLsbD 7 then .none else s.notices.completeness }
        path := { s.path with clashReported :=
          if (s.noticeSet .clash) ∧ (wordOf hi lo).getLsbD 10 then false else s.path.clashReported }
        port := s.port.ended .ok }

/-- R183 and R184: SET_NOTICE_MASK replaces the mask with the low eleven bits of its operand, in every state, with result
OK, and changes no flag; flags are set and cleared whatever the mask; a full reset clears the mask and a partial reset
keeps it. ATN is high exactly while some set flag's mask bit is set, is low after every reset, and stands in bit 7 of
the status byte (Table 10-1). -/
def Obligations.NoticeMaskAndAtn : Prop :=
  (∀ (s : State) (hi lo : Byte) (rest : List Byte), s.receiving 0x04 (hi :: lo :: rest) →
    exec (.setNoticeMask (hi :: lo :: rest) .finish) s = .next { s with
      notices := { s.notices with mask := (wordOf hi lo).setWidth 11 }
      port := s.port.ended .ok }) ∧
  (∀ (s : State) (mask bits : BitVec 11) (n k : Notice),
    let u : State := { s with notices := { s.notices with mask := mask } }
    (u.setNotice n).noticeSet k = (s.setNotice n).noticeSet k ∧
    (u.clearNotices bits).noticeSet k = (s.clearNotices bits).noticeSet k ∧ u.noticeSet k = s.noticeSet k) ∧
  (∀ s : State,
    (s.atn = true ↔ ∃ n : Notice, s.noticeSet n = true ∧ s.notices.mask.getLsbD n.position = true) ∧
    s.statusByte.getLsbD 7 = s.atn) ∧
  (∀ (s : State) (cause : ResetCause),
    (s.fullReset cause).notices.mask = 0 ∧ (s.fullReset cause).atn = false ∧
    s.partialReset.notices.mask = s.notices.mask ∧ s.partialReset.atn = false)

/-- READ_NOTICE: the whole frame shifts out the four bytes of Table 10-7, then 0x00, and with autoclear on clears the
flags it returned; in parts, it latches flags, last-notified link and completeness when the command byte is received,
and at the rise clears the flags latched and no others (R181). -/
def Obligations.ReadNoticeReturnsAndAutoclears : Prop :=
  (∀ (extra : Nat) (s : State), s.port.selected = false →
    ∃ t, exec (.readNotice (.whole extra)) s = .next t ∧
      t.notices.flags = (if s.port.autoclear then 0 else s.notices.flags) ∧
      t = { s with
        notices := { s.notices with
          flags := t.notices.flags
          completeness :=
            if s.port.autoclear ∧ s.noticeSet .snapDone then .none else s.notices.completeness }
        path := { s.path with clashReported :=
          if s.port.autoclear ∧ s.noticeSet .clash then false else s.path.clashReported }
        port := s.exchanged (wordBytes (s.notices.flags.setWidth 16) ++
          [linkCode s.notices.lastNotified, s.notices.completeness.code]) (1 + extra) .ok }) ∧
  (∀ (s : State) (f : Frame), s.betweenBytes → s.port.frame = some f → f.command = none →
    ∃ t g, exec (.readNotice .byte) s = .next t ∧ t.port.frame = some g ∧ g.command = some 0x02 ∧
      g.latch = .notices s.notices.flags s.notices.lastNotified s.notices.completeness ∧
      t.notices = s.notices) ∧
  (∀ (s : State) (f : Frame) (latched : BitVec 11) (last : Option (Fin 8)) (c : Completeness),
    s.port.frame = some f → f.command = some 0x02 → f.latch = .notices latched last c →
    ∃ t, exec (.readNotice .finish) s = .next t ∧ t.port.lastResult = .ok ∧
      t.notices.flags = (if s.port.autoclear then s.notices.flags &&& ~~~latched else s.notices.flags))

/-! ### Status, options, timebase and shadow readout -/

/-- READ_STATUS shifts out the 19 bytes of Table 10-4, then 0x00, all of the moment it begins to shift byte 2, and
changes nothing but the result (R178). The free shadow words are 4096 less the lengths of the extents, and the largest
free extent is the length of the longest free run (R52). -/
def Obligations.ReadStatusReportsOneMoment : Prop :=
  let data (s : State) : List Byte :=
    [0x74, 0x20, 0x10, s.monitor.cause.code, s.monitor.state.code, s.drain.state.code,
      BitVec.ofNat 8 s.drain.pointer.val, linkCode s.drain.current, BitVec.ofNat 8 s.depth] ++
    wordBytes s.queue.lossCount ++ wordBytes s.queue.nextSeq ++ wordBytes s.time.stamp ++
    wordBytes (BitVec.ofNat 16 (4096 - (s.alloc.map Extent.length).sum)) ++
    wordBytes (BitVec.ofNat 16 (largestFree 0 s.alloc))
  (∀ (extra : Nat) (s : State), s.port.selected = false →
    exec (.readStatus (.whole extra)) s = .next { s with port := s.exchanged (data s) (1 + extra) .ok }) ∧
  (∀ (s : State) (f : Frame), s.port.frame = some f → f.command = some 0x01 →
    exec (.readStatus .finish) s = .next (s.frameEnded .ok) ∧
    (s.betweenBytes → f.ops = [] → f.units = 0 → f.data = [] →
      exec (.readStatus .byte) s = .next { s with port := { s.port with
        frame := some { f with ops := [0], units := 1, data := (data s).tail }
        out := 0x74
        sent := s.port.sent ++ [s.port.out] } }) ∧
    (s.betweenBytes → f.ops ≠ [] → ∀ b rest, f.data = b :: rest →
      exec (.readStatus .byte) s = .next { s with port := { s.port with
        frame := some { f with ops := f.ops ++ [0], data := rest }
        out := b
        sent := s.port.sent ++ [s.port.out] } })) ∧
  (∀ alloc : List Extent, (∀ e ∈ alloc, 1 ≤ e.length ∧ e.first + e.length ≤ 4096) →
    alloc.Pairwise (fun e e' => e.first + e.length ≤ e'.first) →
    let free (n k : Nat) : Prop :=
      k + n ≤ 4096 ∧ ∀ e ∈ alloc, k + n ≤ e.first ∨ e.first + e.length ≤ k
    (∃ k, free (largestFree 0 alloc) k) ∧ ∀ n k, free n k → n ≤ largestFree 0 alloc)

/-- SET_OPTIONS in STANDBY installs the five options together; a value out of range, or another monitor state, leaves
them as they are (R179). -/
def Obligations.SetOptionsInstallsAllFive : Prop :=
  ∀ (s : State) (flags burst high : Byte) (rest : List Byte),
    s.receiving 0x41 (flags :: burst :: high :: rest) →
    (s.monitor.state ≠ .standby →
      exec (.setOptions (flags :: burst :: high :: rest) .finish) s = .next (s.frameEnded .badState)) ∧
    (s.monitor.state = .standby → ¬(1 ≤ burst.toNat ∧ burst.toNat ≤ 16 ∧ 1 ≤ high.toNat ∧ high.toNat ≤ 64) →
      exec (.setOptions (flags :: burst :: high :: rest) .finish) s = .next (s.frameEnded .badRange)) ∧
    (s.monitor.state = .standby → 1 ≤ burst.toNat ∧ burst.toNat ≤ 16 ∧ 1 ≤ high.toNat ∧ high.toNat ≤ 64 →
      exec (.setOptions (flags :: burst :: high :: rest) .finish) s = .next { s with
        port := { s.port.ended .ok with
          parityCheck := flags.getLsbD 0
          autoclear := flags.getLsbD 1
          rstPartial := flags.getLsbD 2
          burstLimit := burst.toNat }
        queue := { s.queue with highMark := high.toNat } })

/-- SET_TIMEBASE (R168): STANDBY first, then a step of 0 refused; accepted, it sets divisor, divider and step, with 0
standing for 65536 and 256, and restarts the prescale count and the countdown, leaving the time stamp. -/
def Obligations.SetTimebaseRestartsCounts : Prop :=
  ∀ (s : State) (p1 p0 divider step : Byte) (rest : List Byte),
    s.receiving 0x40 (p1 :: p0 :: divider :: step :: rest) →
    (s.monitor.state ≠ .standby →
      exec (.setTimebase (p1 :: p0 :: divider :: step :: rest) .finish) s = .next (s.frameEnded .badState)) ∧
    (s.monitor.state = .standby → step = 0 →
      exec (.setTimebase (p1 :: p0 :: divider :: step :: rest) .finish) s = .next (s.frameEnded .badRange)) ∧
    (s.monitor.state = .standby → step ≠ 0 →
      exec (.setTimebase (p1 :: p0 :: divider :: step :: rest) .finish) s = .next { s with
        port := s.port.ended .ok
        time := {
          divisor := if wordOf p1 p0 = 0 then 65536 else (wordOf p1 p0).toNat
          count := 0
          stamp := s.time.stamp
          decayDivider := if divider = 0 then 256 else divider.toNat
          countdown := if divider = 0 then 256 else divider.toNat
          decayStep := step } })

/-- R64: SET_SHADOW_POINTER takes an operand up to 4095 in every state and refuses one above; a full reset sets the
pointer to 0 and a partial reset keeps it; nothing but SET_SHADOW_POINTER, READ_SHADOW and a full reset moves it. -/
def Obligations.ShadowPointerMovesByItsCommands : Prop :=
  (∀ (s : State) (hi lo : Byte) (rest : List Byte), s.receiving 0x42 (hi :: lo :: rest) →
    ((wordOf hi lo).toNat ≤ 4095 → exec (.setShadowPointer (hi :: lo :: rest) .finish) s = .next { s with
      shadowPointer := (wordOf hi lo).setWidth 12, port := s.port.ended .ok }) ∧
    (4095 < (wordOf hi lo).toNat →
      exec (.setShadowPointer (hi :: lo :: rest) .finish) s = .next (s.frameEnded .badRange))) ∧
  (∀ (s : State) (cause : ResetCause), (s.fullReset cause).shadowPointer = 0) ∧
  (∀ s : State, s.partialReset.shadowPointer = s.shadowPointer) ∧
  (∀ (c : Instr) (s t : State), exec c s = .next t → t.shadowPointer ≠ s.shadowPointer →
    (∃ ops act, c = .setShadowPointer ops act ∨ c = .readShadow ops act) ∨
      t.shadowPointer = 0 ∧ (c = .fullReset ∨ (∃ act, c = .reset act) ∨ ∃ snap rst, c = .powerOnReset snap rst))

/-- READ_SHADOW with a count n of 1 to 64 shifts out n words from the pointer, wrapping past 4095, each with its valid
flag, an invalid one as zeros, and moves the pointer by n, however many bytes are clocked; another count is refused with
0x00 for every byte (R65, R47). -/
def Obligations.ReadShadowReturnsConsecutiveWords : Prop :=
  ∀ (s : State) (n : Byte) (rest : List Byte) (extra : Nat), s.port.selected = false →
    (1 ≤ n.toNat ∧ n.toNat ≤ 64 →
      exec (.readShadow (n :: rest) (.whole extra)) s = .next { s with
        shadowPointer := BitVec.ofNat 12 ((s.shadowPointer.toNat + n.toNat) % 4096)
        port := s.exchanged ((List.range n.toNat).flatMap fun k =>
            match shadowGet s.shadow ((s.shadowPointer.toNat + k) % 4096) with
            | some v => wordBytes v ++ [0x01]
            | none => [0x00, 0x00, 0x00]) (2 + rest.length + extra) .ok }) ∧
    (¬(1 ≤ n.toNat ∧ n.toNat ≤ 64) →
      exec (.readShadow (n :: rest) (.whole extra)) s = .next { s with
        port := s.exchanged [] (2 + rest.length + extra) .badRange })

/-- READ_REGION shifts out the 37 bytes of Table 10-5 of a record or of the staging record, READ_LINK the 11 bytes of
Table 10-6, each then 0x00; an index out of range is refused with 0x00 for every byte; neither changes anything but the
result (R5, R131, R177). -/
def Obligations.ReadRegionAndReadLinkReturnRecords : Prop :=
  ∀ (s : State) (index : Byte) (rest : List Byte) (extra : Nat), s.port.selected = false →
    let region (data : List Byte) (result : ResultCode) : Prop :=
      exec (.readRegion (index :: rest) (.whole extra)) s = .next { s with
        port := s.exchanged data (2 + rest.length + extra) result }
    let link (data : List Byte) (result : ResultCode) : Prop :=
      exec (.readLink (index :: rest) (.whole extra)) s = .next { s with
        port := s.exchanged data (2 + rest.length + extra) result }
    (∀ r : Fin 32, index.toNat = r.val →
      region (regionBytes (s.region r) ((s.extentOf r).map Extent.first)) .ok) ∧
    (index = 0xFF → region (regionBytes (Region.fresh .free s.staging) none) .ok) ∧
    (32 ≤ index.toNat → index ≠ 0xFF → region [] .badIndex) ∧
    (∀ i : Fin 8, index.toNat = i.val →
      link ([(s.link i).state.code, closeReasonCode (s.link i).closeReason] ++
        addrBytes (s.link i).base ++ wordBytes (s.link i).capacity ++
        [BitVec.ofNat 8 (s.link i).next.val,
          bitAt (s.link i).endOfChain 0 ||| bitAt (s.link i).notify 1] ++ countBytes (s.link i).fill) .ok) ∧
    (8 ≤ index.toNat → link [] .badIndex)

/-! ### Regions -/

/-- STAGE_REGION replaces the twelve staged values with its operands, in every state, with no check (R4). -/
def Obligations.StageRegionReplacesStaging : Prop :=
  ∀ (s : State) (b2 b1 b0 l2 l1 l0 functions r1 r0 f1 f0 settle weight a1 a0 t1 t0 : Byte) (rest : List Byte),
    s.receiving 0x10 (b2 :: b1 :: b0 :: l2 :: l1 :: l0 :: functions :: r1 :: r0 :: f1 :: f0 :: settle :: weight ::
      a1 :: a0 :: t1 :: t0 :: rest) →
    exec (.stageRegion (b2 :: b1 :: b0 :: l2 :: l1 :: l0 :: functions :: r1 :: r0 :: f1 :: f0 :: settle :: weight ::
      a1 :: a0 :: t1 :: t0 :: rest) .finish) s = .next { s with
      staging := {
        base := BitVec.ofNat 20 (b2.toNat * 65536 + b1.toNat * 256 + b0.toNat)
        limit := BitVec.ofNat 20 (l2.toNat * 65536 + l1.toNat * 256 + l0.toNat)
        watch := functions.getLsbD 0
        verify := functions.getLsbD 1
        lock := functions.getLsbD 2
        policy := if functions.getLsbD 3 then .error else .absorb
        riseMask := BitVec.ofNat 16 (r1.toNat * 256 + r0.toNat)
        fallMask := BitVec.ofNat 16 (f1.toNat * 256 + f0.toNat)
        settleTime := settle
        weight := weight
        alertThreshold := BitVec.ofNat 16 (a1.toNat * 256 + a0.toNat)
        tripThreshold := BitVec.ofNat 16 (t1.toNat * 256 + t0.toNat) }
      port := s.port.ended .ok }

/-- A commit that passes the five checks of Table 1-3: the record becomes IDLE with the staged configuration and every
runtime field at zero, a WATCH or VERIFY region takes the first fit of its size, and nothing else changes (R7, R8,
R9, R50). -/
def Obligations.CommitRegionInstallsStaging : Prop :=
  ∀ (s : State) (index : Byte) (r : Fin 32) (rest : List Byte), s.receiving 0x11 (index :: rest) →
    index.toNat = r.val → ((s.region r).state = .free ∨ (s.region r).state = .idle) →
    s.staging.base.toNat ≤ s.staging.limit.toNat →
    (s.staging.watch ∨ s.staging.verify ∨ s.staging.lock ∨ s.staging.tripThreshold ≠ 0) →
    1 ≤ s.staging.weight.toNat → s.staging.weight.toNat ≤ 15 →
    (s.staging.tripThreshold ≠ 0 → s.staging.alertThreshold.toNat ≤ s.staging.tripThreshold.toNat) →
    (∀ i : Fin 32, i ≠ r → (s.region i).committed →
      s.staging.limit.toNat < (s.region i).cfg.base.toNat ∨ (s.region i).cfg.limit.toNat < s.staging.base.toNat) →
    (s.staging.watch ∨ s.staging.verify →
      s.staging.limit.toNat - s.staging.base.toNat + 1 ≤ 4096 ∧
      ∀ i : Fin 8, (s.link i).state = .ready ∨ (s.link i).state = .active →
        s.staging.limit.toNat < (s.link i).base.toNat ∨ (s.link i).lastWord < s.staging.base.toNat) →
    let others := s.alloc.filter fun e => e.region ≠ r
    let size := s.staging.limit.toNat - s.staging.base.toNat + 1
    let installed (alloc : List Extent) : State := { s with
      regions := s.regions.set r (Region.fresh .idle s.staging)
      alloc := alloc
      port := s.port.ended .ok }
    ((s.staging.watch ∨ s.staging.verify) → ∀ first, firstFit size 0 others = some first →
      exec (.commitRegion (index :: rest) .finish) s =
        .next (installed (insertExtent ⟨first, size, r⟩ others))) ∧
    (¬(s.staging.watch ∨ s.staging.verify) →
      exec (.commitRegion (index :: rest) .finish) s = .next (installed others))

/-- The checks of COMMIT_REGION in the order of Table 1-3: each refusal needs the checks before it to pass, and changes
nothing but the result (R6, R8); BAD_RANGE is given exactly when one of the five conditions of R7 fails. -/
def Obligations.CommitRegionChecksInOrder : Prop :=
  ∀ (s : State) (index : Byte) (rest : List Byte), s.receiving 0x11 (index :: rest) →
    let answers (result : ResultCode) : Prop :=
      exec (.commitRegion (index :: rest) .finish) s = .next (s.frameEnded result)
    let c := s.staging
    let consistent : Prop := c.base.toNat ≤ c.limit.toNat ∧
      (c.watch ∨ c.verify ∨ c.lock ∨ c.tripThreshold ≠ 0) ∧
      (1 ≤ c.weight.toNat ∧ c.weight.toNat ≤ 15) ∧
      (c.tripThreshold ≠ 0 → c.alertThreshold.toNat ≤ c.tripThreshold.toNat) ∧
      (c.watch ∨ c.verify → c.limit.toNat - c.base.toNat + 1 ≤ 4096)
    (32 ≤ index.toNat → answers .badIndex) ∧
    ∀ r : Fin 32, index.toNat = r.val →
      ((s.region r).enabled → answers .badState) ∧
      ((s.region r).enabled = false →
        (¬consistent → answers .badRange) ∧
        (consistent →
          ((s.meetsRegion r s.staging ∨ s.staging.shadowed ∧ s.meetsLiveLink s.staging) → answers .overlap) ∧
          (s.meetsRegion r s.staging = false → (s.staging.shadowed → s.meetsLiveLink s.staging = false) →
            s.staging.shadowed → firstFit s.staging.size 0 (removeExtent r s.alloc) = none →
              answers .noShadow)))

/-- First fit (R50): among extents in ascending order within the 4096 indices that do not meet, the index found is
the lowest from which `n` free indices run within the 4096; none is found when there is no such index. -/
def Obligations.FirstFitIsLowestFreeRun : Prop :=
  ∀ (n : Nat) (alloc : List Extent), 1 ≤ n → (∀ e ∈ alloc, 1 ≤ e.length ∧ e.first + e.length ≤ 4096) →
    alloc.Pairwise (fun e e' => e.first + e.length ≤ e'.first) →
    let free (k : Nat) : Prop :=
      k + n ≤ 4096 ∧ ∀ e ∈ alloc, k + n ≤ e.first ∨ e.first + e.length ≤ k
    (∀ k, firstFit n 0 alloc = some k → free k ∧ ∀ j < k, ¬free j) ∧
    (firstFit n 0 alloc = none → ∀ k, ¬free k)

/-- ENABLE_REGION on an IDLE region (R10, R11): HELD in STANDBY; otherwise LIVE at once without WATCH and VERIFY, and
PRIMING from cursor 0 with them, where every word of the extent is invalid (R11) and no read is in flight, served
or claimed for at once when no other region is in PRIMING (R57). -/
def Obligations.EnableRegionLeavesIdle : Prop :=
  ∀ (s : State) (index : Byte) (r : Fin 32) (rest : List Byte), s.receiving 0x13 (index :: rest) →
    index.toNat = r.val → (s.region r).state = .idle →
    (s.monitor.state = .standby →
      exec (.enableRegion (index :: rest) .finish) s = .next { s with
        regions := s.regions.set r { s.region r with state := .held }
        port := s.port.ended .ok }) ∧
    (s.monitor.state ≠ .standby → (s.region r).cfg.watch = false → (s.region r).cfg.verify = false →
      ∃ t, exec (.enableRegion (index :: rest) .finish) s = .next t ∧
        t = { s with
          regions := s.regions.set r { s.region r with state := .live }
          arb := { s.arb with award := t.arb.award }
          port := s.port.ended .ok }) ∧
    (s.monitor.state ≠ .standby → ((s.region r).cfg.watch ∨ (s.region r).cfg.verify) →
      (∀ i : Fin 32, (s.region i).state ≠ .priming) → s.prime.read = none →
      (∃ e, s.extentOf r = some e ∧ shadowGet s.shadow e.first = none) →
      ∃ t, exec (.enableRegion (index :: rest) .finish) s = .next t ∧
        t = { s with
          regions := s.regions.set r
            { s.region r with state := .priming, primeCursor := 0, enginePrimed := 0, trafficPrimed := 0 }
          prime := { served := some r, read := none, claim := true }
          arb := { s.arb with award := t.arb.award }
          port := s.port.ended .ok })

/-- DISABLE_REGION on an enabled region (R13, R53, R79, R101): IDLE, its integrator cleared, its shadow words invalid,
its settle entries gone, its configuration and counts kept; the other records and words are unchanged unless the
Prime Engine moves on to another region. -/
def Obligations.DisableRegionForgetsTheRegion : Prop :=
  ∀ (s : State) (index : Byte) (r : Fin 32) (rest : List Byte), s.receiving 0x14 (index :: rest) →
    index.toNat = r.val →
    ((s.region r).state = .held ∨ (s.region r).state = .priming ∨ (s.region r).state = .live) →
    ∃ t, exec (.disableRegion (index :: rest) .finish) s = .next t ∧
      t.region r = { s.region r with
        state := .idle, accumulator := 0, alertFlag := false, tripLatch := false } ∧
      (∀ i : Fin 32, i ≠ r → (t.region i).cfg = (s.region i).cfg ∧
        ((s.region i).state ≠ .priming → t.region i = s.region i)) ∧
      t.settle = s.settle.filter (fun e => e.region ≠ r) ∧
      (∀ e, s.extentOf r = some e → t.shadow = s.shadow.filter fun w =>
        !(decide (e.first ≤ w.1) && decide (w.1 < e.first + e.length))) ∧
      t.alloc = s.alloc ∧ t.port.lastResult = .ok ∧
      t.path = s.path ∧ t.drain = s.drain ∧ t.monitor = s.monitor ∧ t.time = s.time ∧
      t.staging = s.staging ∧ t.shadowPointer = s.shadowPointer ∧
      (∀ p, s.prime.read = some p → (s.region r).state = .priming →
        t.prime.read = some { p with cancelled := p.cancelled || p.region == r }) ∧
      ((s.region r).state ≠ .priming → t.prime = s.prime ∧ t.queue = s.queue ∧ t.notices = s.notices)

/-- RELEASE_REGION on an IDLE region: FREE with every field zero, its extent gone (R14). SET_SENSE, CLEAR_TRIP and
CLEAR_COUNTS on a committed region: the masks replaced and the region's settle entries removed (R19, R78); the
integrator and the refusal-reported flag cleared (R21); the four counts and the refusal-reported flag cleared (R22). -/
def Obligations.RegionMaintenanceCommands : Prop :=
  ∀ (s : State) (index : Byte) (r : Fin 32) (rest : List Byte), index.toNat = r.val →
    (s.receiving 0x15 (index :: rest) → (s.region r).state = .idle →
      exec (.releaseRegion (index :: rest) .finish) s = .next { s with
        regions := s.regions.set r Region.freed
        alloc := s.alloc.filter fun e => e.region ≠ r
        port := s.port.ended .ok }) ∧
    (∀ r1 r0 f1 f0 : Byte, s.receiving 0x16 (index :: r1 :: r0 :: f1 :: f0 :: rest) →
      (s.region r).state ≠ .free →
      exec (.setSense (index :: r1 :: r0 :: f1 :: f0 :: rest) .finish) s = .next { s with
        regions := s.regions.set r { s.region r with cfg := { (s.region r).cfg with
          riseMask := wordOf r1 r0, fallMask := wordOf f1 f0 } }
        settle := s.settle.filter fun e => e.region ≠ r
        port := s.port.ended .ok }) ∧
    (s.receiving 0x17 (index :: rest) → (s.region r).state ≠ .free →
      exec (.clearTrip (index :: rest) .finish) s = .next { s with
        regions := s.regions.set r { s.region r with
          accumulator := 0, alertFlag := false, tripLatch := false, refusalReported := false }
        port := s.port.ended .ok }) ∧
    (s.receiving 0x18 (index :: rest) → (s.region r).state ≠ .free →
      exec (.clearCounts (index :: rest) .finish) s = .next { s with
        regions := s.regions.set r { s.region r with
          changesRecorded := 0, bouncesSuppressed := 0, refusals := 0, divergences := 0,
          refusalReported := false }
        port := s.port.ended .ok })

/-- The region commands refuse an index of 32 and above with BAD_INDEX, and a record in a state their rule does not
allow with BAD_STATE, changing nothing else (R10, R13, R14, R19, R20, R21, R22). -/
def Obligations.RegionCommandsRefuse : Prop :=
  ∀ (s : State) (code index : Byte) (ops : List Byte),
    code ∈ [0x13, 0x14, 0x15, 0x16, 0x17, 0x18, 0x19] →
    operandBytes code ≤ (index :: ops).length → s.receiving code (index :: ops) →
    (32 ≤ index.toNat → exec (decodeFrame (code :: index :: ops) .finish) s = .next (s.frameEnded .badIndex)) ∧
    ∀ r : Fin 32, index.toNat = r.val →
      ((code = 0x13 ∨ code = 0x15) ∧ (s.region r).state ≠ .idle ∨
        code = 0x14 ∧ ((s.region r).state = .free ∨ (s.region r).state = .idle) ∨
        (s.region r).state = .free) →
      exec (decodeFrame (code :: index :: ops) .finish) s = .next (s.frameEnded .badState)

/-- SET_THRESHOLDS on a committed region (R20, R100): refused with BAD_RANGE where the thresholds do not fit; a trip
threshold of 0 clears the integrator; a nonzero one at or below the accumulator latches the trip at once, with its
notice and, in RUN, a TRIP record without an address; the alert flag stays set only at or above a nonzero alert
threshold. -/
def Obligations.SetThresholdsJudgesTheIntegrator : Prop :=
  ∀ (s : State) (index a1 a0 t1 t0 : Byte) (r : Fin 32) (rest : List Byte),
    s.receiving 0x19 (index :: a1 :: a0 :: t1 :: t0 :: rest) → index.toNat = r.val →
    (s.region r).state ≠ .free →
    let x := s.region r
    let alert := wordOf a1 a0
    let trip := wordOf t1 t0
    let run := exec (.setThresholds (index :: a1 :: a0 :: t1 :: t0 :: rest) .finish) s
    let set : RegionConfig := { x.cfg with alertThreshold := alert, tripThreshold := trip }
    ((trip ≠ 0 ∧ trip.toNat < alert.toNat ∨
        trip = 0 ∧ x.cfg.watch = false ∧ x.cfg.verify = false ∧ x.cfg.lock = false) →
      run = .next (s.frameEnded .badRange)) ∧
    (trip = 0 → (x.cfg.watch ∨ x.cfg.verify ∨ x.cfg.lock) →
      run = .next { s with
        regions := s.regions.set r { x with
          cfg := set, accumulator := 0, alertFlag := false, tripLatch := false }
        port := s.port.ended .ok }) ∧
    (trip ≠ 0 → alert.toNat ≤ trip.toNat →
      ∃ t, run = .next t ∧ t.port.lastResult = .ok ∧
        t.region r = { x with
          cfg := set
          tripLatch := x.tripLatch || decide (trip.toNat ≤ x.accumulator.toNat)
          alertFlag := x.alertFlag && decide (alert ≠ 0) && decide (alert.toNat ≤ x.accumulator.toNat) } ∧
        (∀ i : Fin 32, i ≠ r → t.region i = s.region i) ∧
        (¬(x.tripLatch = false ∧ trip.toNat ≤ x.accumulator.toNat) →
          t.queue = s.queue ∧ t.notices = s.notices) ∧
        (x.tripLatch = false → trip.toNat ≤ x.accumulator.toNat → t.noticeSet .trip = true ∧
          (s.monitor.state ≠ .run → t.queue = s.queue) ∧
          (s.monitor.state = .run → s.depth < 64 → t.queue.records = s.queue.records ++
            [Record.make { kind := .trip, region := some r, valueA := x.accumulator, valueB := trip }
              s.time.stamp s.queue.nextSeq])) ∧
        t.path = s.path ∧ t.staging = s.staging ∧ t.shadow = s.shadow ∧ t.alloc = s.alloc ∧
        t.shadowPointer = s.shadowPointer ∧ t.prime = s.prime ∧ t.settle = s.settle ∧ t.drain = s.drain ∧
        t.monitor = s.monitor ∧ t.time = s.time)

/-! ### The Chain Table and the Drain Engine -/

/-- LOAD_LINK (R127, R128, R129): its checks in order, and what it installs; the link the pointer names is taken at
once by a STARVED drain, every other loaded link is READY. UNLOAD_LINK (R130) empties a READY or DONE link. -/
def Obligations.LoadAndUnloadLink : Prop :=
  (∀ (s : State) (index b2 b1 b0 c1 c0 next flags : Byte) (rest : List Byte),
    s.receiving 0x20 (index :: b2 :: b1 :: b0 :: c1 :: c0 :: next :: flags :: rest) →
    let run := exec (.loadLink (index :: b2 :: b1 :: b0 :: c1 :: c0 :: next :: flags :: rest) .finish) s
    let base := (value24 b2 b1 b0).toNat
    let capacity := (wordOf c1 c0).toNat
    let last := base + capacity - 1
    let fits := base ≤ 0xFFFFF ∧ 8 ≤ capacity ∧ last ≤ 0xFFFFF ∧ next.toNat < 8
    (8 ≤ index.toNat → run = .next (s.frameEnded .badIndex)) ∧
    ∀ i : Fin 8, index.toNat = i.val →
      let clear :=
        (∀ r : Fin 32, (s.region r).committed → (s.region r).cfg.shadowed →
          last < (s.region r).cfg.base.toNat ∨ (s.region r).cfg.limit.toNat < base) ∧
        (∀ j : Fin 8, j ≠ i → (s.link j).liveBuffer →
          last < (s.link j).base.toNat ∨ (s.link j).lastWord < base)
      ((s.link i).state = .active → run = .next (s.frameEnded .busy)) ∧
      ((s.link i).state ≠ .active → ¬fits → run = .next (s.frameEnded .badRange)) ∧
      ((s.link i).state ≠ .active → fits → ¬clear → run = .next (s.frameEnded .overlap)) ∧
      ((s.link i).state ≠ .active → fits → clear → ∀ n : Fin 8, next.toNat = n.val →
        let loaded (state : LinkState) : Link := {
          base := BitVec.ofNat 20 base
          capacity := wordOf c1 c0
          next := n
          endOfChain := flags.getLsbD 0
          notify := flags.getLsbD 1
          state := state
          fill := 0
          closeReason := none }
        (¬(s.drain.state = .starved ∧ s.drain.pointer = i) → run = .next { s with
          drain := { s.drain with links := s.drain.links.set i (loaded .ready) }
          port := s.port.ended .ok }) ∧
        (s.drain.state = .starved ∧ s.drain.pointer = i → ∃ t, run = .next t ∧ t = { s with
          drain := { s.drain with
            links := s.drain.links.set i (loaded .active), state := .running, current := some i }
          arb := { s.arb with award := t.arb.award }
          port := s.port.ended .ok }))) ∧
  (∀ (s : State) (index : Byte) (rest : List Byte), s.receiving 0x28 (index :: rest) →
    let run := exec (.unloadLink (index :: rest) .finish) s
    (8 ≤ index.toNat → run = .next (s.frameEnded .badIndex)) ∧
    ∀ i : Fin 8, index.toNat = i.val →
      ((s.link i).state = .active → run = .next (s.frameEnded .busy)) ∧
      ((s.link i).state = .empty → run = .next (s.frameEnded .badState)) ∧
      ((s.link i).state = .ready ∨ (s.link i).state = .done → run = .next { s with
        drain := { s.drain with
          links := s.drain.links.set i ({ s.link i with state := .empty, fill := 0, closeReason := none }) }
        port := s.port.ended .ok }))

/-- START_DRAIN naming a link (R133) and continuing (R134): what each refuses, and the drain each leaves. (That an
operand of 8 to 254 is judged before the abort pending flag is the model's reading, log entry 17.) -/
def Obligations.StartDrainNamesOrContinues : Prop :=
  (∀ (s : State) (index : Byte) (rest : List Byte), s.receiving 0x22 (index :: rest) → index ≠ 0xFF →
    let run := exec (.startDrain (index :: rest) .finish) s
    (8 ≤ index.toNat → run = .next (s.frameEnded .badIndex)) ∧
    ∀ i : Fin 8, index.toNat = i.val →
      let ready := (s.drain.state = .stopped ∨ s.drain.state = .ended) ∧ s.drain.current = none ∧
        (s.link i).state = .ready
      (s.drain.abortPending = true → run = .next (s.frameEnded .busy)) ∧
      (s.drain.abortPending = false → ¬ready → run = .next (s.frameEnded .badState)) ∧
      (s.drain.abortPending = false → ready → ∃ t, run = .next t ∧ t = { s with
        drain := { s.drain with
          links := s.drain.links.set i { s.link i with state := .active }
          state := .running
          current := some i
          pointer := i }
        arb := { s.arb with award := t.arb.award }
        port := s.port.ended .ok })) ∧
  (∀ (s : State) (rest : List Byte), s.receiving 0x22 (0xFF :: rest) →
    let run := exec (.startDrainContinue .finish) s
    let p := s.drain.pointer
    (s.drain.abortPending = true → run = .next (s.frameEnded .busy)) ∧
    (s.drain.abortPending = false → s.drain.state ≠ .stopped → run = .next (s.frameEnded .badState)) ∧
    (s.drain.abortPending = false → s.drain.state = .stopped → s.drain.current.isSome →
      ∃ t, run = .next t ∧ t = { s with
        drain := { s.drain with state := .running }
        arb := { s.arb with award := t.arb.award }
        port := s.port.ended .ok }) ∧
    (s.drain.abortPending = false → s.drain.state = .stopped → s.drain.current = none →
      (s.link p).state = .ready → ∃ t, run = .next t ∧ t = { s with
        drain := { s.drain with
          links := s.drain.links.set p { s.link p with state := .active }
          state := .running
          current := some p }
        arb := { s.arb with award := t.arb.award }
        port := s.port.ended .ok }) ∧
    (s.drain.abortPending = false → s.drain.state = .stopped → s.drain.current = none →
      (s.link p).state ≠ .ready → run = .next { s with
        drain := { s.drain with state := .starved }
        notices := { s.notices with flags := s.notices.flags ||| 0x004 }
        port := s.port.ended .ok }))

/-- STOP_DRAIN (R139, R144, R158): from RUNNING or STARVED the drain is STOPPED, link, pointer and whatever is in
flight as they were, and a flush mark ends: one of origin SNAP ends the freeze incomplete. That a mark already at 0,
waiting for the last pad, ends so too is the model's choice (log entry 22). Otherwise BAD_STATE. -/
def Obligations.StopDrainKeepsTheLink : Prop :=
  ∀ (s : State) (ops : List Byte), s.receiving 0x23 ops →
    let run := exec (.stopDrain .finish) s
    (s.drain.state = .stopped ∨ s.drain.state = .ended → run = .next (s.frameEnded .badState)) ∧
    (s.drain.state = .running ∨ s.drain.state = .starved →
      (s.drain.mark.any (fun m => m.origin = .snap) = false → ∃ t, run = .next t ∧ t = { s with
        drain := { s.drain with state := .stopped, mark := none }
        arb := { s.arb with award := t.arb.award }
        port := s.port.ended .ok }) ∧
      (s.drain.mark.any (fun m => m.origin = .snap) = true → ∃ t, run = .next t ∧ t = { s with
        drain := { s.drain with state := .stopped, mark := none }
        monitor := { s.monitor with state := .frozen }
        notices := { s.notices with flags := s.notices.flags ||| 0x080, completeness := .incomplete }
        arb := { s.arb with award := t.arb.award }
        port := s.port.ended .ok }))

/-- FLUSH (R142, R143): refused unless RUNNING and without a mark; it sets a mark counting the depth, which a count of
0 completes at once unless a pad run is in flight: a current link with records closes FLUSH and the drain advances,
one without stays ACTIVE. -/
def Obligations.FlushMarksTheDepth : Prop :=
  ∀ (s : State) (ops : List Byte), s.receiving 0x24 ops →
    let run := exec (.flush .finish) s
    (s.drain.state ≠ .running → run = .next (s.frameEnded .badState)) ∧
    (s.drain.state = .running → s.drain.mark.isSome → run = .next (s.frameEnded .busy)) ∧
    (s.drain.state = .running → s.drain.mark = none → (0 < s.depth ∨ s.drain.padInFlight.isSome) →
      run = .next { s with
        drain := { s.drain with mark := some ⟨s.depth, .flush⟩ }
        port := s.port.ended .ok }) ∧
    (s.drain.state = .running → s.drain.mark = none → s.depth = 0 → s.drain.padInFlight = none →
      ∀ i, s.drain.current = some i →
        ∃ t, run = .next t ∧ t.drain.mark = none ∧ t.port.lastResult = .ok ∧ t.queue = s.queue ∧
          t.regions = s.regions ∧ t.shadow = s.shadow ∧ t.monitor = s.monitor ∧ t.path = s.path ∧
          ((s.link i).fill = 0 → t.drain = s.drain ∧ t.notices = s.notices) ∧
          (0 < (s.link i).fill →
            State.closedAndAdvanced s t i .flush ∧ State.markJudged s t i (some ⟨0, .flush⟩)))

/-- ABORT_DRAIN (R140, R141, R144, R158): refused with BUSY while one is pending and with BAD_STATE without an
ACTIVE link to close; taken, the drain is STOPPED, and with nothing in flight the link is DONE with reason ABORT and
the chain ends or the pointer moves on; with a record or pad run in flight the abort is pending. A flush mark ends,
one of origin SNAP with the freeze incomplete; that a mark already at 0, waiting for the last pad, ends so too is
the model's choice (log entry 22). -/
def Obligations.AbortDrainClosesTheLink : Prop :=
  ∀ (s : State) (ops : List Byte), s.receiving 0x25 ops →
    let run := exec (.abortDrain .finish) s
    let inFlight := s.drain.recordInFlight.isSome ∨ s.drain.padInFlight.isSome
    (s.drain.abortPending = true → run = .next (s.frameEnded .busy)) ∧
    (s.drain.abortPending = false →
      ¬(s.drain.state = .running ∨ s.drain.state = .stopped ∧ s.drain.current.isSome) →
      run = .next (s.frameEnded .badState)) ∧
    (s.drain.abortPending = false → s.drain.state = .running ∨ s.drain.state = .stopped →
      ∀ i, s.drain.current = some i → ∃ t, run = .next t ∧ t.port.lastResult = .ok ∧ t.drain.mark = none ∧
        t.queue = s.queue ∧ t.regions = s.regions ∧ t.path = s.path ∧
        t.drain.recordInFlight = s.drain.recordInFlight ∧ t.drain.padInFlight = s.drain.padInFlight ∧
        (s.drain.mark.any (fun m => m.origin = .snap) = true →
          t.monitor.state = .frozen ∧ t.notices.completeness = .incomplete ∧ t.noticeSet .snapDone) ∧
        (s.drain.mark.any (fun m => m.origin = .snap) = false → t.monitor = s.monitor) ∧
        (inFlight → t.drain.abortPending = true ∧ t.drain.state = .stopped ∧ t.drain.current = some i ∧
          t.drain.pointer = s.drain.pointer ∧ ∀ j, t.link j = s.link j) ∧
        (¬inFlight → t.drain.abortPending = false ∧ t.drain.current = none ∧
          t.link i = { s.link i with state := .done, closeReason := some .abort } ∧
          (∀ j, j ≠ i → t.link j = s.link j) ∧
          ((s.link i).notify → t.noticeSet .linkDone ∧ t.notices.lastNotified = some i) ∧
          ((s.link i).endOfChain → t.drain.state = .ended ∧ t.noticeSet .chainEnded ∧
            t.drain.pointer = s.drain.pointer) ∧
          ((s.link i).endOfChain = false → t.drain.state = .stopped ∧ t.drain.pointer = (s.link i).next)))

/-- POP_EVENT and DISCARD_QUEUE (R119, R120, R121, R115): refused with BUSY while the drain is RUNNING or writes a
record; POP_EVENT returns the head record's 16 bytes, or zeros, and removes the head; DISCARD_QUEUE removes every
record; a pending loss is then placed as a LOSS record. -/
def Obligations.PopAndDiscardFreeSlots : Prop :=
  let busy (s : State) := s.drain.state = .running ∨ s.drain.recordInFlight.isSome
  let loss (s : State) : List Record :=
    if s.queue.lossCount = 0 then [] else
      [Record.make { kind := .loss, valueA := s.queue.lossCount, valueB := s.queue.firstLost }
        s.time.stamp s.queue.nextSeq]
  (∀ (extra : Nat) (s : State), s.port.selected = false →
    let run := exec (.popEvent (.whole extra)) s
    (busy s → run = .next { s with port := s.exchanged [] (1 + extra) .busy }) ∧
    (¬busy s → s.queue.records = [] →
      run = .next { s with port := s.exchanged (List.replicate 16 0) (1 + extra) .ok }) ∧
    (¬busy s → ∀ r rest, s.queue.records = r :: rest → rest.length < 64 →
      ∃ t, run = .next t ∧ t.queue.records = rest ++ loss s ∧
        t.queue.lossCount = 0 ∧
        t.port = s.exchanged (r.words.flatMap fun w => [w.extractLsb' 8 8, w.extractLsb' 0 8]) (1 + extra) .ok ∧
        (s.queue.lossCount = 0 → t.queue.nextSeq = s.queue.nextSeq ∧ t.notices = s.notices) ∧
        t.drain = s.drain ∧ t.regions = s.regions ∧ t.monitor = s.monitor ∧ t.path = s.path)) ∧
  (∀ (s : State) (ops : List Byte), s.receiving 0x27 ops →
    (busy s → exec (.discardQueue .finish) s = .next (s.frameEnded .busy)) ∧
    (¬busy s → ∃ t, exec (.discardQueue .finish) s = .next t ∧ t.queue.records = loss s ∧
      t.queue.lossCount = 0 ∧ t.port = s.port.ended .ok ∧
      (s.queue.lossCount = 0 → t.queue.nextSeq = s.queue.nextSeq ∧ t.notices = s.notices) ∧
      t.drain = s.drain ∧ t.regions = s.regions ∧ t.monitor = s.monitor ∧ t.path = s.path))

/-! ### Monitor states and the SNAP line -/

/-- ARM (R150, R15, R11, R57): refused out of STANDBY and while SNAP is high; taken, the monitor is in RUN, every HELD
region is LIVE, or PRIMING from cursor 0 with WATCH or VERIFY, every other region and block is as it was, and the
Prime Engine claims for the lowest region in PRIMING unless a read is in flight. -/
def Obligations.ArmStartsTheHeldRegions : Prop :=
  ∀ (s : State) (ops : List Byte), s.receiving 0x30 ops →
    let run := exec (.arm .finish) s
    (s.monitor.state ≠ .standby → run = .next (s.frameEnded .badState)) ∧
    (s.monitor.state = .standby → s.monitor.snapHigh = true → run = .next (s.frameEnded .snapActive)) ∧
    (s.monitor.state = .standby → s.monitor.snapHigh = false →
      s.standbySound → s.allocSound → s.shadowSound →
      ∃ t, run = .next t ∧ t.monitor = { s.monitor with state := .run } ∧
        (∀ r : Fin 32, t.region r =
          if (s.region r).state = .held then
            if (s.region r).cfg.watch ∨ (s.region r).cfg.verify then
              { s.region r with state := .priming, primeCursor := 0, enginePrimed := 0, trafficPrimed := 0 }
            else { s.region r with state := .live }
          else s.region r) ∧
        (s.prime.read = none →
          t.prime.read = none ∧ t.prime.claim = t.lowestPriming.isSome ∧ t.prime.served = t.lowestPriming) ∧
        (s.prime.read.isSome → t.prime = s.prime) ∧
        t.port = s.port.ended .ok ∧
        t.path = s.path ∧ t.staging = s.staging ∧ t.shadow = s.shadow ∧ t.alloc = s.alloc ∧
        t.settle = s.settle ∧ t.queue = s.queue ∧ t.drain = s.drain ∧ t.time = s.time ∧
        t.notices = s.notices)

/-- DISARM (R152, R16, R53, R79, R144): refused in STANDBY; taken, the monitor is in STANDBY, every PRIMING or LIVE
region is HELD with its integrator cleared, no shadow word of theirs is valid, the Settle Table is empty, a SNAP
flush mark is gone with no hand-off, and queue, notices and the rest of the drain are as they were. -/
def Obligations.DisarmHoldsTheRegions : Prop :=
  ∀ (s : State) (ops : List Byte), s.receiving 0x31 ops →
    let run := exec (.disarm .finish) s
    let forgotten (k : Nat) : Prop :=
      ∃ r e, (s.region r).acting ∧ s.extentOf r = some e ∧ e.first ≤ k ∧ k < e.first + e.length
    (s.monitor.state = .standby → run = .next (s.frameEnded .badState)) ∧
    (s.monitor.state ≠ .standby →
      ∃ t, run = .next t ∧ t.monitor = { s.monitor with state := .standby } ∧
        (∀ r : Fin 32, t.region r =
          if (s.region r).state = .priming ∨ (s.region r).state = .live then
            { s.region r with state := .held, accumulator := 0, alertFlag := false, tripLatch := false }
          else s.region r) ∧
        (∀ k : Nat, forgotten k → shadowGet t.shadow k = none) ∧
        (∀ k : Nat, ¬forgotten k → shadowGet t.shadow k = shadowGet s.shadow k) ∧
        t.settle = [] ∧
        t.drain = { s.drain with mark := s.drain.mark.filter (fun m => m.origin ≠ .snap) } ∧
        (s.prime.read = none → t.prime.claim = false ∧ t.prime.read = none) ∧
        (∀ p, s.prime.read = some p → (s.region p.region).state = .priming →
          t.prime.read = some { p with cancelled := true }) ∧
        t.port = s.port.ended .ok ∧
        t.path = s.path ∧ t.staging = s.staging ∧ t.alloc = s.alloc ∧ t.queue = s.queue ∧ t.time = s.time ∧
        t.notices = s.notices)

/-- RESUME (R154) takes FROZEN to RUN with SNAP low and changes nothing else; the SNAP and RST# lines' levels are held
as seen (R155, R160). -/
def Obligations.ResumeAndLineLevels : Prop :=
  (∀ (s : State) (ops : List Byte), s.receiving 0x32 ops →
    (s.monitor.state ≠ .frozen → exec (.resume .finish) s = .next (s.frameEnded .badState)) ∧
    (s.monitor.state = .frozen → s.monitor.snapHigh = true →
      exec (.resume .finish) s = .next (s.frameEnded .snapActive)) ∧
    (s.monitor.state = .frozen → s.monitor.snapHigh = false → exec (.resume .finish) s = .next { s with
      monitor := { s.monitor with state := .run }
      port := s.port.ended .ok })) ∧
  (∀ s : State, exec .snapLineFalls s = .next { s with monitor := { s.monitor with snapHigh := false } }) ∧
  (∀ s : State, exec .rstLineRises s = .next { s with monitor := { s.monitor with rstHigh := true } }) ∧
  (∀ s : State, s.monitor.snapHigh = true → exec .snapEdge s = .next s) ∧
  (∀ s : State, s.monitor.snapHigh = false → s.monitor.state ≠ .run →
    exec .snapEdge s = .next { s with monitor := { s.monitor with snapHigh := true } })

/-- A SNAP edge taken in RUN (R156, R157, R158): its record enters a queue with room, and the monitor is FREEZING with
a SNAP mark counting every record held while the drain is RUNNING, else FROZEN with an incomplete freeze. -/
def Obligations.SnapEdgeStartsTheFreeze : Prop :=
  ∀ s : State, s.monitor.snapHigh = false → s.monitor.state = .run →
    ∃ t, exec .snapEdge s = .next t ∧ t.monitor.snapHigh = true ∧
      (s.depth < 64 → t.queue.records = s.queue.records ++
        [Record.make { kind := .snap, valueA := BitVec.ofNat 16 s.depth, valueB := 0 }
          s.time.stamp s.queue.nextSeq]) ∧
      (64 ≤ s.depth → t.queue.records = s.queue.records ∧ t.noticeSet .loss ∧
        t.queue.lossCount = satInc s.queue.lossCount) ∧
      t.queue.nextSeq = s.queue.nextSeq + 1 ∧
      (s.drain.state = .running → t.monitor.state = .freezing ∧
        t.drain = { s.drain with mark := some ⟨t.depth, .snap⟩ }) ∧
      (s.drain.state ≠ .running → t.monitor.state = .frozen ∧ t.drain = s.drain ∧
        t.noticeSet .snapDone ∧ t.notices.completeness = .incomplete) ∧
      t.regions = s.regions ∧ t.shadow = s.shadow ∧ t.settle = s.settle ∧ t.path = s.path ∧ t.port = s.port ∧
      t.time = s.time ∧ t.prime = s.prime

/-! ### The master's cycles and the memory port -/

/-- A master cycle arrives (R26): recorded as the master gave it, MWAIT asserted, its claim made; both strobes are a
write. It is ended or withdrawn (R26, R27, R34): no cycle, MWAIT, MBERR and read data gone, its claim removed, a
memory cycle already driven left to run. The model's own: both rows do this in every phase and with no cycle, and a
read cycle is recorded with data and parity 0 (log entry 14); MWAIT after a withdrawal (log entry 10); an arrival
while a cycle is in progress, or without a strobe, is not taken (log entry 2); a decided grant is held in the field
award and falls with its claim (log entry 3). -/
def Obligations.MasterCyclesArriveAndEnd : Prop :=
  (∀ (s : State) (moe mwe : Bool) (addr : Addr) (enables parity : BitVec 2) (data : Word),
    let run := exec (.masterCycleArrives moe mwe addr enables data parity) s
    (s.path.cycle = none → (moe = true ∨ mwe = true) → ∃ t, run = .next t ∧
      t = { s with
        path := { s.path with
          cycle := some {
            write := mwe
            addr := addr
            enables := enables
            data := if mwe then data else 0
            parity := if mwe then parity else 0
            phase := .waiting }
          mwait := true
          mberr := false
          readData := none }
        arb := { s.arb with award := t.arb.award } } ∧
      (s.arb.owner = none → s.arb.award = none → t.arb.award = some .master)) ∧
    ((s.path.cycle.isSome ∨ moe = false ∧ mwe = false) → run = .next s)) ∧
  (∀ (c : Instr) (s : State), c = .masterCycleWithdrawn ∨ c = .masterCycleEnds → ∃ t, exec c s = .next t ∧
    t = { s with
      path := { s.path with cycle := none, mwait := false, mberr := false, readData := none }
      arb := { s.arb with award := t.arb.award } } ∧
    (s.arb.owner = none → t.arb.award ≠ some .master))

/-- The arbiter's decision (R29) at a free port with no grant decided: a waiting master claim first; of prime and drain,
drain at or above the high mark, else the one that is not the last background owner; a claim alone is granted. A
decided grant stands until its row is taken, while its claim stands (log entry 3, the model's choice). -/
def Obligations.ArbiterDecidesByPriority : Prop :=
  (∀ s : State, s.arb.owner = none → s.arb.award = none →
    let decided := s.arbitrate.arb.award
    s.arbitrate = { s with arb := { s.arb with award := decided } } ∧
    (s.masterClaims → decided = some .master) ∧
    (s.masterClaims = false → s.prime.claim → s.drainClaims = false → decided = some .prime) ∧
    (s.masterClaims = false → s.prime.claim = false → s.drainClaims → decided = some .drain) ∧
    (s.masterClaims = false → s.prime.claim → s.drainClaims →
      (s.queue.highMark ≤ s.depth → decided = some .drain) ∧
      (s.depth < s.queue.highMark →
        (s.arb.lastBackground = .prime → decided = some .drain) ∧
        (s.arb.lastBackground = .drain → decided = some .prime))) ∧
    (s.masterClaims = false → s.prime.claim = false → s.drainClaims = false → decided = none)) ∧
  (∀ s : State, s.arb.owner.isSome → s.arbitrate = s) ∧
  (∀ (s : State) (c : Claimant), s.arb.award = some c → s.claims c → s.arbitrate = s) ∧
  (∀ s : State,
    (s.masterClaims = true ↔ ∃ c, s.path.cycle = some c ∧ c.phase = .waiting) ∧
    (s.drainClaims = true ↔ s.drain.state = .running ∧ s.drain.current.isSome ∧ s.queue.records ≠ []))

/-- The parity check (R41, R42, R43): with the option on and the monitor out of STANDBY, a byte that is enabled and
holds with its line an even number of ones sets PARITY and, in RUN, creates a PARITY record, with bytes and lines not
enabled as zero; otherwise nothing happens. -/
def Obligations.ParityErrorsAreNoticed : Prop :=
  (∀ (enables lines : BitVec 2) (d : Word), parityError enables d lines = true ↔
    (enables.getLsbD 1 = true ∧ ((List.range 8).countP (fun n => d.getLsbD (8 + n)) +
      (if lines.getLsbD 1 then 1 else 0)) % 2 = 0) ∨
    (enables.getLsbD 0 = true ∧ ((List.range 8).countP (fun n => d.getLsbD n) +
      (if lines.getLsbD 0 then 1 else 0)) % 2 = 0)) ∧
  (∀ (s : State) (dir : Direction) (a : Addr) (enables lines : BitVec 2) (d : Word),
    let t := s.checkParity dir a enables d lines
    let report : Report := {
      kind := .parity
      direction := dir
      region := s.actingRegion a
      addr := some a
      valueA := (if enables.getLsbD 1 then d &&& 0xFF00 else 0) ||| (if enables.getLsbD 0 then d &&& 0x00FF else 0)
      valueB := (lines &&& enables).setWidth 16 }
    let error := s.port.parityCheck = true ∧ s.monitor.state ≠ .standby ∧ parityError enables d lines = true
    (¬error → t = s) ∧
    (error → t = { s with queue := t.queue, notices := t.notices } ∧ t.noticeSet .parity ∧
      (s.monitor.state ≠ .run → t.queue = s.queue) ∧
      (s.monitor.state = .run → t.queue = (s.createRecord report).queue)))

/-- A master write at its grant (R32 to R36, R41): after its parity check it is refused for CLASH, for LOCK, for TRIP,
in that order, or forwarded. A refused write drives no memory cycle, completes with MBERR for CLASH and by its
region's policy for LOCK and TRIP, is counted, and is reported in RUN once until its flag is cleared. -/
def Obligations.WriteGrantRefusesOrForwards : Prop :=
  ∀ (s : State) (c : MasterCycle), s.arb.owner = none → s.arb.award = some .master → s.path.cycle = some c →
    c.phase = .waiting → c.write = true →
    let u := s.checkParity .write c.addr c.enables c.data c.parity
    let clash := ∃ i : Fin 8, ((s.link i).state = .ready ∨ (s.link i).state = .active) ∧ (s.link i).covers c.addr
    let data := (if c.enables.getLsbD 1 then c.data &&& 0xFF00 else 0) |||
      (if c.enables.getLsbD 0 then c.data &&& 0x00FF else 0)
    ∃ t, exec .writeGrant s = .next t ∧
      t.staging = s.staging ∧ t.shadow = s.shadow ∧ t.alloc = s.alloc ∧ t.prime = s.prime ∧ t.settle = s.settle ∧
      t.drain = s.drain ∧ t.monitor = s.monitor ∧ t.time = s.time ∧ t.port = s.port ∧
      (clash →
        t.path = { s.path with
          cycle := some { c with phase := .completed }
          mwait := false
          mberr := true
          clashReported := s.path.clashReported || decide (s.monitor.state = .run) } ∧
        t.arb = { s.arb with award := t.arb.award } ∧ t.regions = s.regions ∧ t.noticeSet .clash ∧
        (s.monitor.state = .run ∧ s.path.clashReported = false →
          t.queue = (u.createRecord { kind := .refuse, addr := some c.addr, valueA := 3, valueB := data }).queue) ∧
        (¬(s.monitor.state = .run ∧ s.path.clashReported = false) → t.queue = u.queue)) ∧
      (¬clash → ∀ r, s.actingRegion c.addr = some r → (s.region r).cfg.lock ∨ (s.region r).tripLatch →
        t.path = { s.path with
          cycle := some { c with phase := .completed }
          mwait := false
          mberr := decide ((s.region r).cfg.policy = .error) } ∧
        t.arb = { s.arb with award := t.arb.award } ∧
        t.region r = { s.region r with
          refusals := satInc (s.region r).refusals
          refusalReported := (s.region r).refusalReported || decide (s.monitor.state = .run) } ∧
        (∀ i, i ≠ r → t.region i = s.region i) ∧
        (s.monitor.state = .run ∧ (s.region r).refusalReported = false →
          t.queue = (u.createRecord {
            kind := .refuse
            region := some r
            addr := some c.addr
            valueA := if (s.region r).cfg.lock then 1 else 2
            valueB := data }).queue) ∧
        (¬(s.monitor.state = .run ∧ (s.region r).refusalReported = false) →
          t.queue = u.queue ∧ t.notices = u.notices)) ∧
      (¬clash → (∀ r, s.actingRegion c.addr = some r →
          (s.region r).cfg.lock = false ∧ (s.region r).tripLatch = false) →
        t = { u with
          path := { s.path with
            cycle := some { c with phase := .forwarded }
            memCycle := some ⟨true, c.addr, c.enables, c.data, c.parity⟩ }
          arb := { s.arb with owner := some .master, award := none } })

/-- A forwarded write completes (R37, R38, R54): MWAIT drops for the master that still waits for it, the port is free,
and the region found acting on the word now takes the write: a valid shadow word takes the merged value, which a WATCH
region's detector judges; an invalid one is primed by a full word only; then the integrator has its turn. -/
def Obligations.WriteCompletionReachesTheRegion : Prop :=
  ∀ (s : State) (m : MemCycle), s.arb.owner = some .master → s.path.memCycle = some m → m.write = true →
    ∃ t, exec .writeCompletion s = .next t ∧ t.path.memCycle = none ∧ t.arb.owner = none ∧
      (∀ c, s.path.cycle = some c → c.phase = .forwarded →
        t.path = { s.path with
          cycle := some { c with phase := .completed }, mwait := false, readData := none, memCycle := none }) ∧
      ((∀ c, s.path.cycle = some c → c.phase ≠ .forwarded) → t.path = { s.path with memCycle := none }) ∧
      t.staging = s.staging ∧ t.alloc = s.alloc ∧ t.shadowPointer = s.shadowPointer ∧ t.prime = s.prime ∧
      t.drain = s.drain ∧ t.monitor = s.monitor ∧ t.time = s.time ∧ t.port = s.port ∧
      (s.actingRegion m.addr = none → t.regions = s.regions ∧ t.shadow = s.shadow ∧ t.settle = s.settle ∧
        t.queue = s.queue ∧ t.notices = s.notices) ∧
      (∀ r, s.actingRegion m.addr = some r →
        let x := s.region r
        let tookInto (u : State) : Prop := let v := u.integrate r m.addr
          t.regions = v.regions ∧ t.settle = v.settle ∧ t.queue = v.queue ∧ t.notices = v.notices
        (x.cfg.watch = false → x.cfg.verify = false → t.shadow = s.shadow ∧ tookInto s) ∧
        (x.cfg.watch ∨ x.cfg.verify → ∀ e, s.extentOf r = some e →
          let k := e.first + (m.addr.toNat - x.cfg.base.toNat)
          (∀ j, j ≠ k → shadowGet t.shadow j = shadowGet s.shadow j) ∧
          (∀ old, shadowGet s.shadow k = some old →
            let merged : Word :=
              (if m.enables.getLsbD 1 then m.data &&& 0xFF00 else old &&& 0xFF00) |||
                (if m.enables.getLsbD 0 then m.data &&& 0x00FF else old &&& 0x00FF)
            shadowGet t.shadow k = some merged ∧
            (x.cfg.watch → tookInto (s.detect r m.addr old merged)) ∧ (x.cfg.watch = false → tookInto s)) ∧
          (shadowGet s.shadow k = none →
            (m.enables = 3 → shadowGet t.shadow k = some m.data ∧
              tookInto { s with regions := s.regions.set r ({ x with trafficPrimed := satInc x.trafficPrimed }) }) ∧
            (m.enables ≠ 3 → shadowGet t.shadow k = none ∧ tookInto s))))

/-- A master read is forwarded at its grant in every case, and at its completion its data returns unchanged (R39). In
a WATCH or VERIFY region acting on the word, full-word data without a parity error primes an invalid shadow word,
and in a VERIFY region data unlike a valid word resynchronises it, counts a divergence, drops the word's settle
entry and, in RUN, creates a DIVERGE record (R40, R42, R55, R62, R63, R80). -/
def Obligations.MasterReadReturnsAndVerifies : Prop :=
  (∀ (s : State) (c : MasterCycle), s.arb.owner = none → s.arb.award = some .master → s.path.cycle = some c →
    c.phase = .waiting → c.write = false →
    exec .readGrant s = .next { s with
      path := { s.path with
        cycle := some { c with phase := .forwarded }
        memCycle := some ⟨false, c.addr, c.enables, 0, 0⟩ }
      arb := { s.arb with owner := some .master, award := none } }) ∧
  (∀ (s : State) (m : MemCycle) (data : Word) (parity : BitVec 2),
    s.arb.owner = some .master → s.path.memCycle = some m → m.write = false →
    ∃ t, exec (.readCompletion data parity) s = .next t ∧ t.path.memCycle = none ∧ t.arb.owner = none ∧
      (∀ c, s.path.cycle = some c → c.phase = .forwarded →
        t.path = { s.path with
          cycle := some { c with phase := .completed }
          mwait := false
          readData := some ⟨data, parity⟩
          memCycle := none }) ∧
      ((∀ c, s.path.cycle = some c → c.phase ≠ .forwarded) → t.path = { s.path with memCycle := none }) ∧
      t.staging = s.staging ∧ t.alloc = s.alloc ∧ t.shadowPointer = s.shadowPointer ∧ t.prime = s.prime ∧
      t.drain = s.drain ∧ t.monitor = s.monitor ∧ t.time = s.time ∧ t.port = s.port ∧
      let u := s.checkParity .read m.addr m.enables data parity
      let handed (r : Fin 32) : Prop := s.actingRegion m.addr = some r ∧
        ((s.region r).cfg.watch ∨ (s.region r).cfg.verify) ∧ m.enables = 3 ∧
        ¬(s.port.parityCheck ∧ parityError m.enables data parity)
      ((∀ r, ¬handed r) → t.regions = s.regions ∧ t.shadow = s.shadow ∧ t.settle = s.settle ∧
        t.queue = u.queue ∧ t.notices = u.notices) ∧
      (∀ r e, handed r → s.extentOf r = some e →
        let x := s.region r
        let k := e.first + (m.addr.toNat - x.cfg.base.toNat)
        (∀ j, j ≠ k → shadowGet t.shadow j = shadowGet s.shadow j) ∧
        (∀ i, i ≠ r → t.region i = s.region i) ∧
        (shadowGet s.shadow k = none → shadowGet t.shadow k = some data ∧
          t.region r = { x with trafficPrimed := satInc x.trafficPrimed } ∧
          t.settle = s.settle ∧ t.queue = s.queue ∧ t.notices = s.notices) ∧
        (∀ held, shadowGet s.shadow k = some held → (x.cfg.verify = false ∨ data = held) →
          t.shadow = s.shadow ∧ t.regions = s.regions ∧ t.settle = s.settle ∧ t.queue = s.queue ∧
          t.notices = s.notices) ∧
        (∀ held, shadowGet s.shadow k = some held → x.cfg.verify = true → data ≠ held →
          shadowGet t.shadow k = some data ∧ t.region r = { x with divergences := satInc x.divergences } ∧
          t.settle = (if x.cfg.watch then s.settle.filter (fun e => e.addr ≠ m.addr) else s.settle) ∧
          (s.monitor.state ≠ .run → t.queue = s.queue ∧ t.notices = s.notices) ∧
          (s.monitor.state = .run → t.queue = (s.createRecord {
            kind := .diverge
            direction := .read
            region := some r
            addr := some m.addr
            valueA := held
            valueB := data }).queue))))

/-! ### Change detection, the integrators and the Event Queue -/

/-- The Change Detector on a completed write of region `r`, old shadow value and merged value (R67, R69, R71 to R74): a
sensed change is recorded at once with settle time 0, opens an entry with room in the table, and is recorded as
UNSETTLED without; a write to a settling word is ignored, restarts the wait, or withdraws the change as a bounce. -/
def Obligations.ChangesSettleOrAreRecorded : Prop :=
  ∀ (s : State) (r : Fin 32) (a : Addr) (old new : Word),
    let x := s.region r
    let t := s.detect r a old new
    let senses (was is : Word) : Prop := ∃ n : Fin 16, is.getLsbD n ≠ was.getLsbD n ∧
      (is.getLsbD n = true → x.cfg.riseMask.getLsbD n = true) ∧
      (was.getLsbD n = true → x.cfg.fallMask.getLsbD n = true)
    let report (unsettled : Bool) : Report := {
      kind := .change
      unsettled := unsettled
      region := some r
      addr := some a
      valueA := old
      valueB := new }
    let recorded (unsettled : Bool) : Prop :=
      t.region r = { x with changesRecorded := satInc x.changesRecorded } ∧
      (∀ i, i ≠ r → t.region i = s.region i) ∧ t.settle = s.settle ∧
      (s.monitor.state ≠ .run → t.queue = s.queue ∧ t.notices = s.notices) ∧
      (s.monitor.state = .run → t.queue = (s.createRecord (report unsettled)).queue ∧
        t.notices = (s.createRecord (report unsettled)).notices)
    t = { s with regions := t.regions, settle := t.settle, queue := t.queue, notices := t.notices } ∧
    (x.cfg.settleTime = 0 → senses old new → recorded false) ∧
    (x.cfg.settleTime = 0 → ¬senses old new → t = s) ∧
    (x.cfg.settleTime ≠ 0 → (∀ e ∈ s.settle, e.addr ≠ a) →
      (¬senses old new → t = s) ∧
      (senses old new → s.settle.length < 16 →
        t = { s with settle := s.settle ++ [⟨r, a, old, new, x.cfg.settleTime.toNat⟩] }) ∧
      (senses old new → 16 ≤ s.settle.length → recorded true)) ∧
    (x.cfg.settleTime ≠ 0 → ∀ before e after, s.settle = before ++ e :: after → e.addr = a →
      (∀ e' ∈ before ++ after, e'.addr ≠ a) →
      (new = e.candidate → t = s) ∧
      (new ≠ e.candidate → senses e.confirmed new → t = { s with
        settle := before ++ { e with candidate := new, remaining := x.cfg.settleTime.toNat } :: after }) ∧
      (new ≠ e.candidate → ¬senses e.confirmed new → t = { s with
        settle := before ++ after
        regions := s.regions.set r ({ x with bouncesSuppressed := satInc x.bouncesSuppressed }) }))

/-- A write reaches its region's integrator (R91 to R94): off with trip threshold 0; else the weight is added up to
65535, an alert threshold reached with the flag clear raises the alert, then a trip threshold reached with the latch
clear latches the trip, each with its notice and, in RUN, its record. -/
def Obligations.IntegratorAlertsAndTrips : Prop :=
  ∀ (s : State) (r : Fin 32) (a : Addr),
    let x := s.region r
    let t := s.integrate r a
    let sum := min 65535 (x.accumulator.toNat + x.cfg.weight.toNat)
    let alerts := x.cfg.alertThreshold ≠ 0 ∧ x.cfg.alertThreshold.toNat ≤ sum ∧ x.alertFlag = false
    let trips := x.cfg.tripThreshold.toNat ≤ sum ∧ x.tripLatch = false
    let alerted : State := if alerts then
      s.createRecord {
        kind := .alert
        region := some r
        addr := some a
        valueA := BitVec.ofNat 16 sum
        valueB := x.cfg.alertThreshold } else s
    let tripped : State := if trips then
      alerted.createRecord {
        kind := .trip
        region := some r
        addr := some a
        valueA := BitVec.ofNat 16 sum
        valueB := x.cfg.tripThreshold } else alerted
    (x.cfg.tripThreshold = 0 → t = s) ∧
    (x.cfg.tripThreshold ≠ 0 →
      t = { s with regions := t.regions, queue := t.queue, notices := t.notices } ∧
      t.region r = { x with
        accumulator := BitVec.ofNat 16 sum
        alertFlag := x.alertFlag || decide alerts
        tripLatch := x.tripLatch || decide trips } ∧
      (∀ i, i ≠ r → t.region i = s.region i) ∧
      (alerts → t.noticeSet .alert) ∧ (trips → t.noticeSet .trip) ∧
      (s.monitor.state ≠ .run → t.queue = s.queue) ∧ (s.monitor.state = .run → t.queue = tripped.queue) ∧
      (¬alerts → ¬trips → t.notices = s.notices))

/-- A record is created (R105, R109, R110, R113, R114, R117): it takes the next sequence number and the time stamp, and
enters at the tail of a queue with room, setting QUEUE_HIGH at the high mark, or is lost to a full queue, counted, its
number noted if it is the first, with the notice LOSS. The LOSS record of R115 enters in the same way, QUEUE_HIGH
included. That the row LOSS_PLACEMENT makes that placement by itself where losses are pending and a slot is free, and
nothing otherwise, is the model's choice (log entries 2 and 4). -/
def Obligations.QueueTakesOrLosesRecords : Prop :=
  (∀ (s : State) (b : Report),
    let t := s.createRecord b
    let record := Record.make b s.time.stamp s.queue.nextSeq
    (record.report = b ∧ record.stamp = s.time.stamp ∧ record.seq = s.queue.nextSeq) ∧
    t = { s with queue := t.queue, notices := t.notices } ∧
    (s.depth < 64 → t.queue = { s.queue with
        records := s.queue.records ++ [record], nextSeq := s.queue.nextSeq + 1 } ∧
      (s.depth + 1 = s.queue.highMark → t.notices = { s.notices with flags := s.notices.flags ||| 0x008 }) ∧
      (s.depth + 1 ≠ s.queue.highMark → t.notices = s.notices)) ∧
    (64 ≤ s.depth → t.queue = { s.queue with
        nextSeq := s.queue.nextSeq + 1
        lossCount := if s.queue.lossCount = 65535 then 65535 else s.queue.lossCount + 1
        firstLost := if s.queue.lossCount = 0 then s.queue.nextSeq else s.queue.firstLost } ∧
      t.notices = { s.notices with flags := s.notices.flags ||| 0x010 })) ∧
  (∀ s : State,
    (s.queue.lossCount ≠ 0 ∧ s.depth < 64 → ∃ t, exec .lossPlacement s = .next t ∧
      t.queue = { s.queue with
        records := s.queue.records ++
          [Record.make { kind := .loss, valueA := s.queue.lossCount, valueB := s.queue.firstLost }
            s.time.stamp s.queue.nextSeq]
        nextSeq := s.queue.nextSeq + 1
        lossCount := 0 } ∧
      t = { s with queue := t.queue, notices := t.notices, arb := { s.arb with award := t.arb.award } } ∧
      (s.depth + 1 = s.queue.highMark → t.notices = { s.notices with flags := s.notices.flags ||| 0x008 }) ∧
      (s.depth + 1 ≠ s.queue.highMark → t.notices = s.notices)) ∧
    (¬(s.queue.lossCount ≠ 0 ∧ s.depth < 64) → ∃ t, exec .lossPlacement s = .next t ∧
      t = { s with arb := { s.arb with award := t.arb.award } }))

/-- R108: the check word is the exclusive-or of words 0 to 6 (those of Table 6-1), fixed at creation; a record is intact
when the exclusive-or of its words 0 to 7 is 0x0000; eight words of 0x0000 are intact too, and no record's kind code
is 0; wrong words are detected unless their errors cancel, a single one always; and every command keeps the records
of the queue as created, taking some from the head and adding created ones at the tail; and the drain drives the words
of the head record as they stand. -/
def Obligations.CheckWordMakesRecordsIntact : Prop :=
  (∀ (b : Report) (stamp seq : Word),
    let r := Record.make b stamp seq
    ∃ w0 w1 w2, r.words = [w0, w1, w2, b.valueA, b.valueB, stamp, seq, r.check] ∧
      r.check = w0 ^^^ w1 ^^^ w2 ^^^ b.valueA ^^^ b.valueB ^^^ stamp ^^^ seq ∧
      w0.extractLsb' 12 4 = b.kind.code.setWidth 4 ∧ w0.extractLsb' 12 4 ≠ 0 ∧
      w0.getLsbD 11 = b.region.isSome ∧ (∀ i, b.region = some i → (w0.extractLsb' 6 5).toNat = i.val) ∧
      (b.region = none → w0.extractLsb' 6 5 = 0) ∧
      w0.getLsbD 5 = b.settled ∧ w0.getLsbD 4 = b.unsettled ∧ w0.getLsbD 3 = decide (b.direction = .read) ∧
      w0.extractLsb' 0 3 = 0 ∧
      (∀ a, b.addr = some a → w1 = 0x8000 ||| (a.extractLsb' 16 4).setWidth 16 ∧ w2 = a.setWidth 16) ∧
      (b.addr = none → w1 = 0 ∧ w2 = 0) ∧
      xorWords r.words = 0 ∧
      (∀ (n : Fin 8) (wrong : Word), r.words[n.val]? ≠ some wrong → xorWords (r.words.set n wrong) ≠ 0) ∧
      (∀ read : List Word, read.length = 8 →
        (xorWords read = 0 ↔ xorWords (List.zipWith (· ^^^ ·) r.words read) = 0))) ∧
  xorWords (List.replicate 8 0) = 0 ∧
  (∀ (c : Instr) (s t : State), exec c s = .next t →
    ∃ kept new, t.queue.records = kept ++ new ∧ kept <:+ s.queue.records ∧
      ∀ r ∈ new, ∃ b stamp seq, r = Record.make b stamp seq) ∧
  (∀ (s : State) (i : Fin 8) (r : Record) (rest : List Record) (k : Nat), s.drain.current = some i →
    s.queue.records = r :: rest →
    (s.driveWord k).path.memCycle.map MemCycle.data = some (r.words.getD k 0))

/-! ### The Prime Engine -/

/-- The Prime Engine's grant (R58, R59): it reads the first invalid word at or above the cursor and leaves the cursor
past it; else the lowest invalid word, with the cursor at the size; else no memory cycle is driven and the region is
LIVE, with the notice PRIMED and, in RUN, a PRIMED record. That such a grant makes prime the last background owner is
the model's reading of R28 (log entry 16). Its read's completion (R60, R42) primes the word unless the read is
cancelled, the region has left PRIMING or the word is valid; then the engine steps (R57): with an invalid word left in
the only PRIMING region it claims again, with none left that region is LIVE, with PRIMED and, in RUN, its record. -/
def Obligations.PrimingReadsInvalidWords : Prop :=
  (∀ (s : State) (r : Fin 32) (e : Extent), s.arb.owner = none → s.arb.award = some .prime →
    s.prime.served = some r → s.prime.read = none → (s.region r).state = .priming → s.extentOf r = some e →
    let x := s.region r
    let size := x.cfg.limit.toNat - x.cfg.base.toNat + 1
    let invalid (k : Nat) : Prop := k < size ∧ shadowGet s.shadow (e.first + k) = none
    let reads (k cursor : Nat) : Prop := exec .primeGrant s = .next { s with
      regions := s.regions.set r ({ x with primeCursor := cursor })
      path := { s.path with memCycle := some ⟨false, x.cfg.base + BitVec.ofNat 20 k, 3, 0, 0⟩ }
      arb := { s.arb with owner := some .prime, award := none, lastBackground := .prime }
      prime := { served := some r, claim := false, read := some ⟨r, x.cfg.base + BitVec.ofNat 20 k, false⟩ } }
    (∀ k, x.primeCursor ≤ k → invalid k → (∀ j, x.primeCursor ≤ j → j < k → ¬invalid j) → reads k (k + 1)) ∧
    ((∀ k, x.primeCursor ≤ k → ¬invalid k) → ∀ k, invalid k → (∀ j, j < k → ¬invalid j) → reads k size) ∧
    ((∀ k, ¬invalid k) → ∃ t, exec .primeGrant s = .next t ∧ t.region r = { x with
        state := .live, primeCursor := size } ∧
      t.noticeSet .primed ∧ t.path = s.path ∧ t.arb.owner = none ∧ t.arb.lastBackground = .prime ∧
      t.shadow = s.shadow ∧ t.settle = s.settle ∧ t.drain = s.drain ∧ t.monitor = s.monitor ∧ t.port = s.port ∧
      ((∀ i, i ≠ r → (s.region i).state ≠ .priming) →
        (∀ i, i ≠ r → t.region i = s.region i) ∧ t.prime = { served := none, read := none, claim := false } ∧
        (s.monitor.state ≠ .run → t.queue = s.queue) ∧
        (s.monitor.state = .run → t.queue = (s.createRecord {
          kind := .primed, region := some r, valueA := x.enginePrimed, valueB := x.trafficPrimed }).queue)))) ∧
  (∀ (s : State) (p : PrimeRead) (m : MemCycle) (data : Word) (parity : BitVec 2),
    s.prime.read = some p → s.path.memCycle = some m → s.arb.owner = some .prime →
    let x := s.region p.region
    ∃ t, exec (.primeReadCompletion data parity) s = .next t ∧ t.prime.read = none ∧
      t.path = { s.path with memCycle := none } ∧ t.arb.owner = none ∧ t.settle = s.settle ∧ t.drain = s.drain ∧
      t.monitor = s.monitor ∧ t.port = s.port ∧ t.alloc = s.alloc ∧
      (s.port.parityCheck = true ∧ s.monitor.state ≠ .standby ∧ parityError m.enables data parity = true →
        t.noticeSet .parity) ∧
      (∀ e, s.extentOf p.region = some e → let k := e.first + (p.addr.toNat - x.cfg.base.toNat)
        (p.cancelled = false ∧ x.state = .priming ∧ shadowGet s.shadow k = none →
          (t.region p.region).enginePrimed = satInc x.enginePrimed ∧
          ∀ j, shadowGet t.shadow j = if j = k then some data else shadowGet s.shadow j) ∧
        (¬(p.cancelled = false ∧ x.state = .priming ∧ shadowGet s.shadow k = none) →
          (t.region p.region).enginePrimed = x.enginePrimed ∧ t.shadow = s.shadow) ∧
        let u := s.checkParity .read m.addr m.enables data parity
        let size := x.cfg.limit.toNat - x.cfg.base.toNat + 1
        let invalid (j : Nat) : Prop := j < size ∧ shadowGet t.shadow (e.first + j) = none
        (x.state = .priming → (∀ i, i ≠ p.region → (s.region i).state ≠ .priming) →
          (∀ i, i ≠ p.region → t.region i = s.region i) ∧
          (∀ j, invalid j → (t.region p.region).state = .priming ∧
            t.prime = { served := some p.region, read := none, claim := true } ∧
            t.queue = u.queue ∧ t.notices = u.notices) ∧
          ((∀ j, ¬invalid j) →
            (t.region p.region).state = .live ∧ (t.region p.region).primeCursor = size ∧
            t.prime = { served := none, read := none, claim := false } ∧ t.noticeSet .primed ∧
            (s.monitor.state ≠ .run → t.queue = u.queue) ∧
            (s.monitor.state = .run → t.queue = (u.createRecord {
              kind := .primed
              region := some p.region
              valueA := (t.region p.region).enginePrimed
              valueB := x.trafficPrimed }).queue)))) ∧
      ((∀ i, (s.region i).state ≠ .priming) → t.regions = s.regions ∧
        t.prime = { served := none, read := none, claim := false }))

/-! ### Writing records to memory -/

/-- The drain's grant and the writes of words 0 to 6 (R28, R30, R135): the burst count takes the limit, and each word of
the head record goes to its address in the ACTIVE link's buffer, both bytes enabled, with odd parity. The completion
of a write that a reset abandoned frees the port and nothing else, under whichever of the three rows it is reported
(R44; log entry 15). -/
def Obligations.DrainBurstWritesTheHeadRecord : Prop :=
  (∀ d : Word, parityError 3 d (parityLines d) = false) ∧
  (∀ (s : State) (i : Fin 8) (head : Record) (rest : List Record), s.drain.current = some i →
    s.queue.records = head :: rest →
    let driven (k : Nat) : CyclePath := { s.path with memCycle := some {
      write := true
      addr := (s.link i).base + BitVec.ofNat 20 ((s.link i).fill * 8 + k)
      enables := 3
      data := head.words.getD k 0
      parity := parityLines (head.words.getD k 0) } }
    (s.arb.owner = none → s.arb.award = some .drain → exec .drainGrant s = .next { s with
      path := driven 0
      arb := { owner := some .drain, award := none, burstCount := s.port.burstLimit, lastBackground := .drain }
      drain := { s.drain with recordInFlight := some 0 } }) ∧
    (∀ k, k < 7 → s.drain.recordInFlight = some k → s.arb.owner = some .drain → s.path.memCycle.isSome →
      exec .drainWriteCompletion s = .next { s with
        path := driven (k + 1)
        drain := { s.drain with recordInFlight := some (k + 1) } })) ∧
  (∀ (c : Instr) (s : State),
    c = .drainWriteCompletion ∨ c = .recordWriteCompletion ∨ c = .padWriteCompletion →
    s.arb.owner = some .drain → s.path.memCycle.isSome → s.drain.recordInFlight = none →
    s.drain.padInFlight = none → ∃ t, exec c s = .next t ∧ t = { s with
      path := { s.path with memCycle := none }
      arb := { s.arb with owner := none, award := t.arb.award } })

/-- A record's eighth write completes (R115, R118, R135): the head leaves the queue, a pending loss is placed, fill,
burst count and flush mark move by one. Then (R30, R136, R140, R141, R143): a pending abort closes the link; less
than 8 words left closes it FULL, after pad writes if any are left; a mark at 0 closes it FLUSH; else the next
record is begun, or the burst ends and the link stays ACTIVE. A closure that completes a SNAP mark ends the freeze
complete, one whose advance ends or starves the drain while the mark still counts ends it incomplete (R144, R157,
R158). -/
def Obligations.RecordWrittenLeavesTheQueue : Prop :=
  ∀ (s : State) (i : Fin 8) (head : Record) (rest : List Record), s.arb.owner = some .drain →
    s.path.memCycle.isSome → s.drain.recordInFlight = some 7 → s.drain.padInFlight = none →
    s.drain.current = some i → s.queue.records = head :: rest → rest.length < 64 →
    let records := rest ++ (if s.queue.lossCount = 0 then [] else
      [Record.make { kind := .loss, valueA := s.queue.lossCount, valueB := s.queue.firstLost }
        s.time.stamp s.queue.nextSeq])
    let l : Link := { s.link i with fill := (s.link i).fill + 1 }
    let grown : State := { s with drain := { s.drain with links := s.drain.links.set i l } }
    let left := l.capacity.toNat - l.fill * 8
    let mark := s.drain.mark.map fun (m : FlushMark) => { m with remaining := m.remaining - 1 }
    let due := mark.any fun m => m.remaining = 0
    let more := s.arb.burstCount - 1 ≠ 0 ∧ records ≠ [] ∧ s.drain.state = .running
    let drives (t : State) (a : Addr) (d : Word) : Prop := t.arb.owner = some .drain ∧
      t.arb.burstCount = s.arb.burstCount - 1 ∧
      t.path.memCycle = some { write := true, addr := a, enables := 3, data := d, parity := parityLines d }
    let rests (t : State) : Prop := t.arb.owner = none ∧ t.path.memCycle = none ∧
      t.drain.recordInFlight = none ∧ t.drain.padInFlight = none
    ∃ t, exec .recordWriteCompletion s = .next t ∧ t.queue.records = records ∧ t.queue.lossCount = 0 ∧
      t.regions = s.regions ∧ t.shadow = s.shadow ∧ t.settle = s.settle ∧ t.prime = s.prime ∧ t.time = s.time ∧
      t.port = s.port ∧
      (s.drain.abortPending = true → rests t ∧ t.drain.abortPending = false ∧ t.drain.current = none ∧
        t.link i = { l with state := .done, closeReason := some .abort } ∧
        (∀ j, j ≠ i → t.link j = s.link j) ∧
        (l.endOfChain → t.drain.state = .ended ∧ t.drain.pointer = s.drain.pointer) ∧
        (l.endOfChain = false → t.drain.state = s.drain.state ∧ t.drain.pointer = l.next)) ∧
      (s.drain.abortPending = false →
        (left = 0 → rests t ∧ State.closedAndAdvanced grown t i .full ∧ State.markJudged grown t i mark) ∧
        (0 < left ∧ left < 8 → drives t (l.base + BitVec.ofNat 20 (l.fill * 8)) 0 ∧
          t.drain = { grown.drain with mark := mark, recordInFlight := none, padInFlight := some 0 } ∧
          t.monitor = s.monitor) ∧
        (8 ≤ left → due → rests t ∧ State.closedAndAdvanced grown t i .flush ∧ State.markJudged grown t i mark) ∧
        (8 ≤ left → ¬due → more → ∀ next, records.head? = some next →
          drives t (l.base + BitVec.ofNat 20 (l.fill * 8)) (next.words.getD 0 0) ∧
          t.drain = { grown.drain with mark := mark, recordInFlight := some 0 } ∧ t.monitor = s.monitor) ∧
        (8 ≤ left → ¬due → ¬more → rests t ∧
          t.drain = { grown.drain with mark := mark, recordInFlight := none } ∧ t.monitor = s.monitor))

/-- A pad write completes (R136, R137, R141): the next pad word is driven, and the last one closes the link FULL
with the advance, and completes or ends the flush mark (R143, R144, R157, R158); a pending abort replaces the
advance. The rows BURST_END, FLUSH_COMPLETE and ABORT_CARRIED_OUT do by themselves what the completions do in the
same event, where their condition stands alone (log entry 4, the model's choice). -/
def Obligations.PadsAndDrainEventsCloseLinks : Prop :=
  (∀ (s : State) (i : Fin 8) (k : Nat), s.arb.owner = some .drain → s.path.memCycle.isSome →
    s.drain.recordInFlight = none → s.drain.padInFlight = some k → s.drain.current = some i →
    let l := s.link i
    let left := l.capacity.toNat - l.fill * 8
    ∃ t, exec .padWriteCompletion s = .next t ∧ t.queue = s.queue ∧ t.regions = s.regions ∧
      t.shadow = s.shadow ∧ t.port = s.port ∧ t.time = s.time ∧
      (k + 1 < left → t = { s with
        path := { s.path with memCycle := some {
          write := true
          addr := l.base + BitVec.ofNat 20 (l.fill * 8 + (k + 1))
          enables := 3
          data := 0
          parity := 3 } }
        drain := { s.drain with padInFlight := some (k + 1) } }) ∧
      (left ≤ k + 1 → t.arb.owner = none ∧ t.path = { s.path with memCycle := none } ∧
        t.drain.padInFlight = none ∧ t.link i = { l with state := .done, closeReason := some .full } ∧
        (s.drain.abortPending = false →
          State.closedAndAdvanced s t i .full ∧ State.markJudged s t i s.drain.mark) ∧
        (s.drain.abortPending = true → t.drain.abortPending = false ∧ t.drain.current = none ∧
          (∀ j, j ≠ i → t.link j = s.link j) ∧
          (l.endOfChain → t.drain.state = .ended ∧ t.drain.pointer = s.drain.pointer) ∧
          (l.endOfChain = false → t.drain.state = s.drain.state ∧ t.drain.pointer = l.next)))) ∧
  (∀ s : State, s.drain.recordInFlight = none → s.drain.padInFlight = none →
    (s.arb.owner = some .drain → s.path.memCycle = none → ∃ t, exec .burstEnd s = .next t ∧
      t = { s with arb := { s.arb with owner := none, award := t.arb.award } }) ∧
    (∀ i m, s.drain.current = some i → s.drain.mark = some m → m.remaining = 0 →
      ∃ t, exec .flushComplete s = .next t ∧ t.drain.mark = none ∧ t.queue = s.queue ∧ t.regions = s.regions ∧
        t.path = s.path ∧
        ((s.link i).fill = 0 → t.drain = { s.drain with mark := none }) ∧
        (0 < (s.link i).fill → State.closedAndAdvanced s t i .flush ∧ State.markJudged s t i (some m)) ∧
        (m.origin = .snap → t.monitor.state = .frozen ∧ t.notices.completeness = .complete ∧
          t.noticeSet .snapDone) ∧
        (m.origin = .flush → t.monitor = s.monitor)) ∧
    (∀ i, s.drain.current = some i → s.drain.abortPending = true →
      ∃ t, exec .abortCarriedOut s = .next t ∧ t.drain.abortPending = false ∧ t.drain.current = none ∧
        t.link i = { s.link i with state := .done, closeReason := some .abort } ∧
        (∀ j, j ≠ i → t.link j = s.link j) ∧ t.queue = s.queue ∧ t.regions = s.regions ∧ t.path = s.path ∧
        ((s.link i).endOfChain → t.drain.state = .ended ∧ t.drain.pointer = s.drain.pointer) ∧
        ((s.link i).endOfChain = false →
          t.drain.state = s.drain.state ∧ t.drain.pointer = (s.link i).next)))

/-! ### Time -/

/-- TCLK periods count to the divisor, whose last one is a base tick (R165). A base tick (R166, R167, R75, R76, R96,
R97): time stamp and countdown move by one, a countdown at its end is loaded again and every accumulator decays,
every settle entry loses a tick, and those at their last are recorded as SETTLED changes in creation order. The rows
DECAY_TICK and SETTLE_EXPIRY act where their condition stands by itself (log entry 4, the model's choice). -/
def Obligations.TicksTimeDecayAndSettling : Prop :=
  let decayed (s : State) (x : Region) : Region :=
    let left := x.accumulator.toNat - s.time.decayStep.toNat
    { x with
      accumulator := BitVec.ofNat 16 left
      alertFlag := x.alertFlag && decide (x.cfg.alertThreshold.toNat ≤ left) }
  let settled (e : SettleEntry) : Report := {
    kind := .change
    settled := true
    region := some e.region
    addr := some e.addr
    valueA := e.confirmed
    valueB := e.candidate }
  (∀ s : State, (s.time.count + 1 ≠ s.time.divisor → exec .tclkPeriod s = .next { s with
      time := { s.time with count := s.time.count + 1 } }) ∧
    (s.time.count + 1 = s.time.divisor → exec .tclkPeriod s = exec .baseTick s)) ∧
  (∀ s : State,
    let decays := s.time.countdown - 1 = 0
    let expired := s.settle.filter fun e => e.remaining ≤ 1
    ∃ t, exec .baseTick s = .next t ∧
      t.time = { s.time with
        count := 0
        stamp := s.time.stamp + 1
        countdown := if decays then s.time.decayDivider else s.time.countdown - 1 } ∧
      t.settle = (s.settle.filter fun e => 1 < e.remaining).map
        (fun (e : SettleEntry) => { e with remaining := e.remaining - 1 }) ∧
      (∀ r : Fin 32,
        let x := if decays then decayed s (s.region r) else s.region r
        t.region r = { x with changesRecorded := BitVec.ofNat 16 (min 65535 (x.changesRecorded.toNat +
          (expired.filter fun e => e.region = r).length)) }) ∧
      (s.monitor.state ≠ .run → t.queue = s.queue ∧ t.notices = s.notices) ∧
      (s.monitor.state = .run → t.queue =
        (expired.foldl (fun (u : State) e => u.createRecord (settled e)) { s with time := t.time }).queue) ∧
      t.path = s.path ∧ t.shadow = s.shadow ∧ t.alloc = s.alloc ∧ t.prime = s.prime ∧ t.drain = s.drain ∧
      t.monitor = s.monitor ∧ t.port = s.port) ∧
  (∀ s : State, (s.time.countdown = 0 → ∃ t, exec .decayTick s = .next t ∧
      (∀ r : Fin 32, t.region r = decayed s (s.region r)) ∧
      t = { s with regions := t.regions, time := { s.time with countdown := s.time.decayDivider } }) ∧
    (s.time.countdown ≠ 0 → exec .decayTick s = .next s)) ∧
  (∀ (s : State) (before after : List SettleEntry) (e : SettleEntry), s.settle = before ++ e :: after →
    (∀ e' ∈ before, e'.remaining ≠ 0) → e.remaining = 0 → (∀ e' ∈ before ++ after, e'.addr ≠ e.addr) →
    ∃ t, exec .settleExpiry s = .next t ∧ t.settle = before ++ after ∧
      t.region e.region = { s.region e.region with
        changesRecorded := satInc (s.region e.region).changesRecorded } ∧
      (∀ i, i ≠ e.region → t.region i = s.region i) ∧
      (s.monitor.state ≠ .run → t.queue = s.queue) ∧
      (s.monitor.state = .run → t.queue = (s.createRecord (settled e)).queue) ∧
      t.path = s.path ∧ t.shadow = s.shadow ∧ t.drain = s.drain ∧ t.monitor = s.monitor ∧ t.time = s.time)

/-! ### What every step keeps -/

/-- Every step keeps the Event Queue within 64 intact records with losses pending only while full (R108, R112,
R115), the options and the Timebase in their ranges (R165, R179), a frame and the bits of a byte as R172 has them,
the SNAP completeness and the clash-reported flag in step with their notices (R36, R180), the monitor FREEZING
exactly while a SNAP flush mark is present, a mark only while the drain runs, and an abort pending only while it is
stopped (R141, R144, R149, R157, R158). -/
def Obligations.StepsKeepQueueRangesNoticesAndFreeze : Prop :=
  (∀ s t : State, step s = .next t → s.queueSound → t.queueSound) ∧
  (∀ s t : State, step s = .next t → s.rangesSound → t.rangesSound) ∧
  (∀ s t : State, step s = .next t → s.portSound → t.portSound) ∧
  (∀ s t : State, step s = .next t → s.noticesSound → t.noticesSound) ∧
  (∀ s t : State, step s = .next t → s.freezeSound → t.freezeSound)

/-- Every step keeps the committed regions disjoint (R8, R17), so that a lookup answers the one acting region that
contains the word, and none where there is none (R18); and it keeps live buffers apart from each other and from the
words of WATCH and VERIFY regions (R8, R128). -/
def Obligations.StepsKeepRegionsAndBuffersApart : Prop :=
  (∀ s t : State, step s = .next t → s.regionsApart → t.regionsApart) ∧
  (∀ (s : State) (a : Addr), s.regionsApart → ∀ r : Fin 32,
    s.actingRegion a = some r ↔ (s.region r).acting ∧ (s.region r).cfg.contains a) ∧
  (∀ s t : State, step s = .next t → s.buffersApart → t.buffersApart)

/-- Every step keeps an integrator at zero outside acting regions with a trip threshold, and an alert flag only at or
above its threshold (R90, R97, R100, R101). -/
def Obligations.StepsKeepIntegratorsSound : Prop :=
  ∀ s t : State, step s = .next t → s.integratorsSound → t.integratorsSound

/-- Every step keeps the Settle Table as R70 says, each entry naming a valid shadow word that holds its candidate, in
states whose regions and whose extents are apart. -/
def Obligations.StepsKeepSettleTableSound : Prop :=
  ∀ s t : State, step s = .next t → s.regionsApart → s.allocSound → s.settleSound → t.settleSound

/-- Every step keeps the Chain Table and the Drain Engine in agreement (R118, R120, R126, R132, R135, R136, R141). -/
def Obligations.StepsKeepChainAndDrainSound : Prop :=
  ∀ s t : State, step s = .next t → s.linksSound → s.drainSound → t.linksSound ∧ t.drainSound

/-- Every step keeps the arbiter, the Prime Engine, the acting of regions, the Shadow Allocation List and the Shadow
Store in agreement, the Shadow Store in its canonical form and every word of a LIVE region's extent valid (R12, R18, R29,
R47, R49, R56, R57, R59, R60, R85). -/
def Obligations.StepsKeepArbiterPrimeAndShadowSound : Prop :=
  ∀ s t : State, step s = .next t →
    s.arbiterSound → s.primeSound → s.standbySound → s.allocSound → s.shadowSound →
    t.arbiterSound ∧ t.primeSound ∧ t.standbySound ∧ t.allocSound ∧ t.shadowSound
end

