-- ==== Sys2Proof/Laws/Decode.lean ====
section
/-! SUPPORT. What the port's decoding of a frame's bytes gives. -/

namespace Sys2Proof

/-- A command byte that is no code of Table 10-3. -/
theorem decodeFrame_unknown {code : Byte} (h : code ∉ knownCodes) (ops : List Byte) (act : FrameAct) :
    decodeFrame (code :: ops) act = .badCommand (some code) act := by
  simp only [knownCodes, List.mem_cons, List.not_mem_nil, or_false, not_or] at h
  simp only [decodeFrame, h, ↓reduceIte]

/-- START_DRAIN with an operand other than 0xFF. -/
theorem decodeFrame_startDrain {ops : List Byte} (h : ops.head? ≠ some 0xFF) (act : FrameAct) :
    decodeFrame (0x22 :: ops) act = .startDrain ops act :=
  if_neg h

/-- START_DRAIN with operand 0xFF. -/
theorem decodeFrame_startDrainContinue {ops : List Byte} (h : ops.head? = some 0xFF) (act : FrameAct) :
    decodeFrame (0x22 :: ops) act = .startDrainContinue act :=
  if_pos h

/-- A command byte is a code of Table 10-3 or is none. -/
theorem knownCodes_cases {code : Byte} (h : code ∈ knownCodes) :
    code = 0x01 ∨ code = 0x02 ∨ code = 0x03 ∨ code = 0x04 ∨ code = 0x10 ∨ code = 0x11 ∨ code = 0x12 ∨
    code = 0x13 ∨ code = 0x14 ∨ code = 0x15 ∨ code = 0x16 ∨ code = 0x17 ∨ code = 0x18 ∨ code = 0x19 ∨
    code = 0x20 ∨ code = 0x21 ∨ code = 0x22 ∨ code = 0x23 ∨ code = 0x24 ∨ code = 0x25 ∨ code = 0x26 ∨
    code = 0x27 ∨ code = 0x28 ∨ code = 0x30 ∨ code = 0x31 ∨ code = 0x32 ∨ code = 0x40 ∨ code = 0x41 ∨
    code = 0x42 ∨ code = 0x43 ∨ code = 0x4F := by
  simpa only [knownCodes, List.mem_cons, List.not_mem_nil, or_false] using h

/-- Only known codes have operands in Table 10-3. -/
theorem operandBytes_unknown {code : Byte} (h : code ∉ knownCodes) : Machine.operandBytes code = 0 := by
  simp only [knownCodes, List.mem_cons, List.not_mem_nil, or_false, not_or] at h
  simp only [Machine.operandBytes, h, ↓reduceIte]

end Sys2Proof
end

