-- ==== Sys2Proof/Laws/State.lean ====
section
/-! SUPPORT. The named updates of State: one lemma per field per update, true by unfolding, so that a proof reads a
field of an updated state without opening the update. -/

namespace Sys2Proof.Machine

@[simp] theorem State.setRegion_path (s : State) (r : Fin 32) (x : Region) :
    (s.setRegion r x).path = s.path := rfl
@[simp] theorem State.setRegion_arb (s : State) (r : Fin 32) (x : Region) :
    (s.setRegion r x).arb = s.arb := rfl
@[simp] theorem State.setRegion_regions (s : State) (r : Fin 32) (x : Region) :
    (s.setRegion r x).regions = s.regions.set r x := rfl
@[simp] theorem State.setRegion_staging (s : State) (r : Fin 32) (x : Region) :
    (s.setRegion r x).staging = s.staging := rfl
@[simp] theorem State.setRegion_shadow (s : State) (r : Fin 32) (x : Region) :
    (s.setRegion r x).shadow = s.shadow := rfl
@[simp] theorem State.setRegion_alloc (s : State) (r : Fin 32) (x : Region) :
    (s.setRegion r x).alloc = s.alloc := rfl
@[simp] theorem State.setRegion_shadowPointer (s : State) (r : Fin 32) (x : Region) :
    (s.setRegion r x).shadowPointer = s.shadowPointer := rfl
@[simp] theorem State.setRegion_prime (s : State) (r : Fin 32) (x : Region) :
    (s.setRegion r x).prime = s.prime := rfl
@[simp] theorem State.setRegion_settle (s : State) (r : Fin 32) (x : Region) :
    (s.setRegion r x).settle = s.settle := rfl
@[simp] theorem State.setRegion_queue (s : State) (r : Fin 32) (x : Region) :
    (s.setRegion r x).queue = s.queue := rfl
@[simp] theorem State.setRegion_drain (s : State) (r : Fin 32) (x : Region) :
    (s.setRegion r x).drain = s.drain := rfl
@[simp] theorem State.setRegion_monitor (s : State) (r : Fin 32) (x : Region) :
    (s.setRegion r x).monitor = s.monitor := rfl
@[simp] theorem State.setRegion_time (s : State) (r : Fin 32) (x : Region) :
    (s.setRegion r x).time = s.time := rfl
@[simp] theorem State.setRegion_port (s : State) (r : Fin 32) (x : Region) :
    (s.setRegion r x).port = s.port := rfl
@[simp] theorem State.setRegion_notices (s : State) (r : Fin 32) (x : Region) :
    (s.setRegion r x).notices = s.notices := rfl
@[simp] theorem State.setRegion_pending (s : State) (r : Fin 32) (x : Region) :
    (s.setRegion r x).pending = s.pending := rfl

@[simp] theorem State.modRegion_path (s : State) (r : Fin 32) (f : Region → Region) :
    (s.modRegion r f).path = s.path := rfl
@[simp] theorem State.modRegion_arb (s : State) (r : Fin 32) (f : Region → Region) :
    (s.modRegion r f).arb = s.arb := rfl
@[simp] theorem State.modRegion_regions (s : State) (r : Fin 32) (f : Region → Region) :
    (s.modRegion r f).regions = s.regions.set r (f (s.region r)) := rfl
@[simp] theorem State.modRegion_staging (s : State) (r : Fin 32) (f : Region → Region) :
    (s.modRegion r f).staging = s.staging := rfl
@[simp] theorem State.modRegion_shadow (s : State) (r : Fin 32) (f : Region → Region) :
    (s.modRegion r f).shadow = s.shadow := rfl
@[simp] theorem State.modRegion_alloc (s : State) (r : Fin 32) (f : Region → Region) :
    (s.modRegion r f).alloc = s.alloc := rfl
@[simp] theorem State.modRegion_shadowPointer (s : State) (r : Fin 32) (f : Region → Region) :
    (s.modRegion r f).shadowPointer = s.shadowPointer := rfl
@[simp] theorem State.modRegion_prime (s : State) (r : Fin 32) (f : Region → Region) :
    (s.modRegion r f).prime = s.prime := rfl
@[simp] theorem State.modRegion_settle (s : State) (r : Fin 32) (f : Region → Region) :
    (s.modRegion r f).settle = s.settle := rfl
@[simp] theorem State.modRegion_queue (s : State) (r : Fin 32) (f : Region → Region) :
    (s.modRegion r f).queue = s.queue := rfl
@[simp] theorem State.modRegion_drain (s : State) (r : Fin 32) (f : Region → Region) :
    (s.modRegion r f).drain = s.drain := rfl
@[simp] theorem State.modRegion_monitor (s : State) (r : Fin 32) (f : Region → Region) :
    (s.modRegion r f).monitor = s.monitor := rfl
@[simp] theorem State.modRegion_time (s : State) (r : Fin 32) (f : Region → Region) :
    (s.modRegion r f).time = s.time := rfl
@[simp] theorem State.modRegion_port (s : State) (r : Fin 32) (f : Region → Region) :
    (s.modRegion r f).port = s.port := rfl
@[simp] theorem State.modRegion_notices (s : State) (r : Fin 32) (f : Region → Region) :
    (s.modRegion r f).notices = s.notices := rfl
@[simp] theorem State.modRegion_pending (s : State) (r : Fin 32) (f : Region → Region) :
    (s.modRegion r f).pending = s.pending := rfl

@[simp] theorem State.mapRegions_path (s : State) (f : Region → Region) :
    (s.mapRegions f).path = s.path := by
  unfold State.mapRegions; rfl
@[simp] theorem State.mapRegions_arb (s : State) (f : Region → Region) :
    (s.mapRegions f).arb = s.arb := by
  unfold State.mapRegions; rfl
@[simp] theorem State.mapRegions_regions (s : State) (f : Region → Region) :
    (s.mapRegions f).regions = Vector.ofFn fun i => f (s.regions.get i) := by
  unfold State.mapRegions; rfl
@[simp] theorem State.mapRegions_staging (s : State) (f : Region → Region) :
    (s.mapRegions f).staging = s.staging := by
  unfold State.mapRegions; rfl
@[simp] theorem State.mapRegions_shadow (s : State) (f : Region → Region) :
    (s.mapRegions f).shadow = s.shadow := by
  unfold State.mapRegions; rfl
@[simp] theorem State.mapRegions_alloc (s : State) (f : Region → Region) :
    (s.mapRegions f).alloc = s.alloc := by
  unfold State.mapRegions; rfl
@[simp] theorem State.mapRegions_shadowPointer (s : State) (f : Region → Region) :
    (s.mapRegions f).shadowPointer = s.shadowPointer := by
  unfold State.mapRegions; rfl
@[simp] theorem State.mapRegions_prime (s : State) (f : Region → Region) :
    (s.mapRegions f).prime = s.prime := by
  unfold State.mapRegions; rfl
@[simp] theorem State.mapRegions_settle (s : State) (f : Region → Region) :
    (s.mapRegions f).settle = s.settle := by
  unfold State.mapRegions; rfl
@[simp] theorem State.mapRegions_queue (s : State) (f : Region → Region) :
    (s.mapRegions f).queue = s.queue := by
  unfold State.mapRegions; rfl
@[simp] theorem State.mapRegions_drain (s : State) (f : Region → Region) :
    (s.mapRegions f).drain = s.drain := by
  unfold State.mapRegions; rfl
@[simp] theorem State.mapRegions_monitor (s : State) (f : Region → Region) :
    (s.mapRegions f).monitor = s.monitor := by
  unfold State.mapRegions; rfl
@[simp] theorem State.mapRegions_time (s : State) (f : Region → Region) :
    (s.mapRegions f).time = s.time := by
  unfold State.mapRegions; rfl
@[simp] theorem State.mapRegions_port (s : State) (f : Region → Region) :
    (s.mapRegions f).port = s.port := by
  unfold State.mapRegions; rfl
@[simp] theorem State.mapRegions_notices (s : State) (f : Region → Region) :
    (s.mapRegions f).notices = s.notices := by
  unfold State.mapRegions; rfl
@[simp] theorem State.mapRegions_pending (s : State) (f : Region → Region) :
    (s.mapRegions f).pending = s.pending := by
  unfold State.mapRegions; rfl

@[simp] theorem State.writeShadow_path (s : State) (k : Nat) (w : Word) :
    (s.writeShadow k w).path = s.path := rfl
@[simp] theorem State.writeShadow_arb (s : State) (k : Nat) (w : Word) :
    (s.writeShadow k w).arb = s.arb := rfl
@[simp] theorem State.writeShadow_regions (s : State) (k : Nat) (w : Word) :
    (s.writeShadow k w).regions = s.regions := rfl
@[simp] theorem State.writeShadow_staging (s : State) (k : Nat) (w : Word) :
    (s.writeShadow k w).staging = s.staging := rfl
@[simp] theorem State.writeShadow_shadow (s : State) (k : Nat) (w : Word) :
    (s.writeShadow k w).shadow = shadowSet s.shadow k w := rfl
@[simp] theorem State.writeShadow_alloc (s : State) (k : Nat) (w : Word) :
    (s.writeShadow k w).alloc = s.alloc := rfl
@[simp] theorem State.writeShadow_shadowPointer (s : State) (k : Nat) (w : Word) :
    (s.writeShadow k w).shadowPointer = s.shadowPointer := rfl
@[simp] theorem State.writeShadow_prime (s : State) (k : Nat) (w : Word) :
    (s.writeShadow k w).prime = s.prime := rfl
@[simp] theorem State.writeShadow_settle (s : State) (k : Nat) (w : Word) :
    (s.writeShadow k w).settle = s.settle := rfl
@[simp] theorem State.writeShadow_queue (s : State) (k : Nat) (w : Word) :
    (s.writeShadow k w).queue = s.queue := rfl
@[simp] theorem State.writeShadow_drain (s : State) (k : Nat) (w : Word) :
    (s.writeShadow k w).drain = s.drain := rfl
@[simp] theorem State.writeShadow_monitor (s : State) (k : Nat) (w : Word) :
    (s.writeShadow k w).monitor = s.monitor := rfl
@[simp] theorem State.writeShadow_time (s : State) (k : Nat) (w : Word) :
    (s.writeShadow k w).time = s.time := rfl
@[simp] theorem State.writeShadow_port (s : State) (k : Nat) (w : Word) :
    (s.writeShadow k w).port = s.port := rfl
@[simp] theorem State.writeShadow_notices (s : State) (k : Nat) (w : Word) :
    (s.writeShadow k w).notices = s.notices := rfl
@[simp] theorem State.writeShadow_pending (s : State) (k : Nat) (w : Word) :
    (s.writeShadow k w).pending = s.pending := rfl

@[simp] theorem State.setNotice_path (s : State) (n : Notice) : (s.setNotice n).path = s.path := rfl
@[simp] theorem State.setNotice_arb (s : State) (n : Notice) : (s.setNotice n).arb = s.arb := rfl
@[simp] theorem State.setNotice_regions (s : State) (n : Notice) : (s.setNotice n).regions = s.regions := rfl
@[simp] theorem State.setNotice_staging (s : State) (n : Notice) : (s.setNotice n).staging = s.staging := rfl
@[simp] theorem State.setNotice_shadow (s : State) (n : Notice) : (s.setNotice n).shadow = s.shadow := rfl
@[simp] theorem State.setNotice_alloc (s : State) (n : Notice) : (s.setNotice n).alloc = s.alloc := rfl
@[simp] theorem State.setNotice_shadowPointer (s : State) (n : Notice) :
    (s.setNotice n).shadowPointer = s.shadowPointer := rfl
@[simp] theorem State.setNotice_prime (s : State) (n : Notice) : (s.setNotice n).prime = s.prime := rfl
@[simp] theorem State.setNotice_settle (s : State) (n : Notice) : (s.setNotice n).settle = s.settle := rfl
@[simp] theorem State.setNotice_queue (s : State) (n : Notice) : (s.setNotice n).queue = s.queue := rfl
@[simp] theorem State.setNotice_drain (s : State) (n : Notice) : (s.setNotice n).drain = s.drain := rfl
@[simp] theorem State.setNotice_monitor (s : State) (n : Notice) : (s.setNotice n).monitor = s.monitor := rfl
@[simp] theorem State.setNotice_time (s : State) (n : Notice) : (s.setNotice n).time = s.time := rfl
@[simp] theorem State.setNotice_port (s : State) (n : Notice) : (s.setNotice n).port = s.port := rfl
@[simp] theorem State.setNotice_notices (s : State) (n : Notice) :
    (s.setNotice n).notices = { s.notices with flags := s.notices.flags ||| n.bit } := rfl
@[simp] theorem State.setNotice_pending (s : State) (n : Notice) : (s.setNotice n).pending = s.pending := rfl

@[simp] theorem State.setLink_path (s : State) (i : Fin 8) (l : Link) : (s.setLink i l).path = s.path := rfl
@[simp] theorem State.setLink_arb (s : State) (i : Fin 8) (l : Link) : (s.setLink i l).arb = s.arb := rfl
@[simp] theorem State.setLink_regions (s : State) (i : Fin 8) (l : Link) :
    (s.setLink i l).regions = s.regions := rfl
@[simp] theorem State.setLink_staging (s : State) (i : Fin 8) (l : Link) :
    (s.setLink i l).staging = s.staging := rfl
@[simp] theorem State.setLink_shadow (s : State) (i : Fin 8) (l : Link) :
    (s.setLink i l).shadow = s.shadow := rfl
@[simp] theorem State.setLink_alloc (s : State) (i : Fin 8) (l : Link) :
    (s.setLink i l).alloc = s.alloc := rfl
@[simp] theorem State.setLink_shadowPointer (s : State) (i : Fin 8) (l : Link) :
    (s.setLink i l).shadowPointer = s.shadowPointer := rfl
@[simp] theorem State.setLink_prime (s : State) (i : Fin 8) (l : Link) :
    (s.setLink i l).prime = s.prime := rfl
@[simp] theorem State.setLink_settle (s : State) (i : Fin 8) (l : Link) :
    (s.setLink i l).settle = s.settle := rfl
@[simp] theorem State.setLink_queue (s : State) (i : Fin 8) (l : Link) :
    (s.setLink i l).queue = s.queue := rfl
@[simp] theorem State.setLink_drain (s : State) (i : Fin 8) (l : Link) :
    (s.setLink i l).drain = { s.drain with links := s.drain.links.set i l } := rfl
@[simp] theorem State.setLink_monitor (s : State) (i : Fin 8) (l : Link) :
    (s.setLink i l).monitor = s.monitor := rfl
@[simp] theorem State.setLink_time (s : State) (i : Fin 8) (l : Link) : (s.setLink i l).time = s.time := rfl
@[simp] theorem State.setLink_port (s : State) (i : Fin 8) (l : Link) : (s.setLink i l).port = s.port := rfl
@[simp] theorem State.setLink_notices (s : State) (i : Fin 8) (l : Link) :
    (s.setLink i l).notices = s.notices := rfl
@[simp] theorem State.setLink_pending (s : State) (i : Fin 8) (l : Link) :
    (s.setLink i l).pending = s.pending := rfl

@[simp] theorem State.takePort_path (s : State) (c : Claimant) (m : MemCycle) :
    (s.takePort c m).path = { s.path with memCycle := some m } := rfl
@[simp] theorem State.takePort_arb (s : State) (c : Claimant) (m : MemCycle) :
    (s.takePort c m).arb = { s.arb with owner := some c, award := none } := rfl
@[simp] theorem State.takePort_regions (s : State) (c : Claimant) (m : MemCycle) :
    (s.takePort c m).regions = s.regions := rfl
@[simp] theorem State.takePort_staging (s : State) (c : Claimant) (m : MemCycle) :
    (s.takePort c m).staging = s.staging := rfl
@[simp] theorem State.takePort_shadow (s : State) (c : Claimant) (m : MemCycle) :
    (s.takePort c m).shadow = s.shadow := rfl
@[simp] theorem State.takePort_alloc (s : State) (c : Claimant) (m : MemCycle) :
    (s.takePort c m).alloc = s.alloc := rfl
@[simp] theorem State.takePort_shadowPointer (s : State) (c : Claimant) (m : MemCycle) :
    (s.takePort c m).shadowPointer = s.shadowPointer := rfl
@[simp] theorem State.takePort_prime (s : State) (c : Claimant) (m : MemCycle) :
    (s.takePort c m).prime = s.prime := rfl
@[simp] theorem State.takePort_settle (s : State) (c : Claimant) (m : MemCycle) :
    (s.takePort c m).settle = s.settle := rfl
@[simp] theorem State.takePort_queue (s : State) (c : Claimant) (m : MemCycle) :
    (s.takePort c m).queue = s.queue := rfl
@[simp] theorem State.takePort_drain (s : State) (c : Claimant) (m : MemCycle) :
    (s.takePort c m).drain = s.drain := rfl
@[simp] theorem State.takePort_monitor (s : State) (c : Claimant) (m : MemCycle) :
    (s.takePort c m).monitor = s.monitor := rfl
@[simp] theorem State.takePort_time (s : State) (c : Claimant) (m : MemCycle) :
    (s.takePort c m).time = s.time := rfl
@[simp] theorem State.takePort_port (s : State) (c : Claimant) (m : MemCycle) :
    (s.takePort c m).port = s.port := rfl
@[simp] theorem State.takePort_notices (s : State) (c : Claimant) (m : MemCycle) :
    (s.takePort c m).notices = s.notices := rfl
@[simp] theorem State.takePort_pending (s : State) (c : Claimant) (m : MemCycle) :
    (s.takePort c m).pending = s.pending := rfl

@[simp] theorem State.dropEntry_path (s : State) (a : Addr) : (s.dropEntry a).path = s.path := rfl
@[simp] theorem State.dropEntry_arb (s : State) (a : Addr) : (s.dropEntry a).arb = s.arb := rfl
@[simp] theorem State.dropEntry_regions (s : State) (a : Addr) : (s.dropEntry a).regions = s.regions := rfl
@[simp] theorem State.dropEntry_staging (s : State) (a : Addr) : (s.dropEntry a).staging = s.staging := rfl
@[simp] theorem State.dropEntry_shadow (s : State) (a : Addr) : (s.dropEntry a).shadow = s.shadow := rfl
@[simp] theorem State.dropEntry_alloc (s : State) (a : Addr) : (s.dropEntry a).alloc = s.alloc := rfl
@[simp] theorem State.dropEntry_shadowPointer (s : State) (a : Addr) :
    (s.dropEntry a).shadowPointer = s.shadowPointer := rfl
@[simp] theorem State.dropEntry_prime (s : State) (a : Addr) : (s.dropEntry a).prime = s.prime := rfl
@[simp] theorem State.dropEntry_settle (s : State) (a : Addr) :
    (s.dropEntry a).settle = s.settle.filter fun e => e.addr ≠ a := rfl
@[simp] theorem State.dropEntry_queue (s : State) (a : Addr) : (s.dropEntry a).queue = s.queue := rfl
@[simp] theorem State.dropEntry_drain (s : State) (a : Addr) : (s.dropEntry a).drain = s.drain := rfl
@[simp] theorem State.dropEntry_monitor (s : State) (a : Addr) : (s.dropEntry a).monitor = s.monitor := rfl
@[simp] theorem State.dropEntry_time (s : State) (a : Addr) : (s.dropEntry a).time = s.time := rfl
@[simp] theorem State.dropEntry_port (s : State) (a : Addr) : (s.dropEntry a).port = s.port := rfl
@[simp] theorem State.dropEntry_notices (s : State) (a : Addr) : (s.dropEntry a).notices = s.notices := rfl
@[simp] theorem State.dropEntry_pending (s : State) (a : Addr) : (s.dropEntry a).pending = s.pending := rfl

@[simp] theorem State.dropEntries_path (s : State) (r : Fin 32) : (s.dropEntries r).path = s.path := rfl
@[simp] theorem State.dropEntries_arb (s : State) (r : Fin 32) : (s.dropEntries r).arb = s.arb := rfl
@[simp] theorem State.dropEntries_regions (s : State) (r : Fin 32) :
    (s.dropEntries r).regions = s.regions := rfl
@[simp] theorem State.dropEntries_staging (s : State) (r : Fin 32) :
    (s.dropEntries r).staging = s.staging := rfl
@[simp] theorem State.dropEntries_shadow (s : State) (r : Fin 32) : (s.dropEntries r).shadow = s.shadow := rfl
@[simp] theorem State.dropEntries_alloc (s : State) (r : Fin 32) : (s.dropEntries r).alloc = s.alloc := rfl
@[simp] theorem State.dropEntries_shadowPointer (s : State) (r : Fin 32) :
    (s.dropEntries r).shadowPointer = s.shadowPointer := rfl
@[simp] theorem State.dropEntries_prime (s : State) (r : Fin 32) : (s.dropEntries r).prime = s.prime := rfl
@[simp] theorem State.dropEntries_settle (s : State) (r : Fin 32) :
    (s.dropEntries r).settle = s.settle.filter fun e => e.region ≠ r := rfl
@[simp] theorem State.dropEntries_queue (s : State) (r : Fin 32) : (s.dropEntries r).queue = s.queue := rfl
@[simp] theorem State.dropEntries_drain (s : State) (r : Fin 32) : (s.dropEntries r).drain = s.drain := rfl
@[simp] theorem State.dropEntries_monitor (s : State) (r : Fin 32) :
    (s.dropEntries r).monitor = s.monitor := rfl
@[simp] theorem State.dropEntries_time (s : State) (r : Fin 32) : (s.dropEntries r).time = s.time := rfl
@[simp] theorem State.dropEntries_port (s : State) (r : Fin 32) : (s.dropEntries r).port = s.port := rfl
@[simp] theorem State.dropEntries_notices (s : State) (r : Fin 32) :
    (s.dropEntries r).notices = s.notices := rfl
@[simp] theorem State.dropEntries_pending (s : State) (r : Fin 32) :
    (s.dropEntries r).pending = s.pending := rfl

@[simp] theorem State.cancelRead_path (s : State) (leaving : Fin 32 → Bool) :
    (s.cancelRead leaving).path = s.path := rfl
@[simp] theorem State.cancelRead_arb (s : State) (leaving : Fin 32 → Bool) :
    (s.cancelRead leaving).arb = s.arb := rfl
@[simp] theorem State.cancelRead_regions (s : State) (leaving : Fin 32 → Bool) :
    (s.cancelRead leaving).regions = s.regions := rfl
@[simp] theorem State.cancelRead_staging (s : State) (leaving : Fin 32 → Bool) :
    (s.cancelRead leaving).staging = s.staging := rfl
@[simp] theorem State.cancelRead_shadow (s : State) (leaving : Fin 32 → Bool) :
    (s.cancelRead leaving).shadow = s.shadow := rfl
@[simp] theorem State.cancelRead_alloc (s : State) (leaving : Fin 32 → Bool) :
    (s.cancelRead leaving).alloc = s.alloc := rfl
@[simp] theorem State.cancelRead_shadowPointer (s : State) (leaving : Fin 32 → Bool) :
    (s.cancelRead leaving).shadowPointer = s.shadowPointer := rfl
@[simp] theorem State.cancelRead_prime (s : State) (leaving : Fin 32 → Bool) :
    (s.cancelRead leaving).prime = { s.prime with read := s.prime.read.map fun p => if leaving p.region then { p with cancelled := true } else p } := rfl
@[simp] theorem State.cancelRead_settle (s : State) (leaving : Fin 32 → Bool) :
    (s.cancelRead leaving).settle = s.settle := rfl
@[simp] theorem State.cancelRead_queue (s : State) (leaving : Fin 32 → Bool) :
    (s.cancelRead leaving).queue = s.queue := rfl
@[simp] theorem State.cancelRead_drain (s : State) (leaving : Fin 32 → Bool) :
    (s.cancelRead leaving).drain = s.drain := rfl
@[simp] theorem State.cancelRead_monitor (s : State) (leaving : Fin 32 → Bool) :
    (s.cancelRead leaving).monitor = s.monitor := rfl
@[simp] theorem State.cancelRead_time (s : State) (leaving : Fin 32 → Bool) :
    (s.cancelRead leaving).time = s.time := rfl
@[simp] theorem State.cancelRead_port (s : State) (leaving : Fin 32 → Bool) :
    (s.cancelRead leaving).port = s.port := rfl
@[simp] theorem State.cancelRead_notices (s : State) (leaving : Fin 32 → Bool) :
    (s.cancelRead leaving).notices = s.notices := rfl
@[simp] theorem State.cancelRead_pending (s : State) (leaving : Fin 32 → Bool) :
    (s.cancelRead leaving).pending = s.pending := rfl

@[simp] theorem State.frameEnded_path (s : State) (r : ResultCode) : (s.frameEnded r).path = s.path := rfl
@[simp] theorem State.frameEnded_arb (s : State) (r : ResultCode) : (s.frameEnded r).arb = s.arb := rfl
@[simp] theorem State.frameEnded_regions (s : State) (r : ResultCode) :
    (s.frameEnded r).regions = s.regions := rfl
@[simp] theorem State.frameEnded_staging (s : State) (r : ResultCode) :
    (s.frameEnded r).staging = s.staging := rfl
@[simp] theorem State.frameEnded_shadow (s : State) (r : ResultCode) :
    (s.frameEnded r).shadow = s.shadow := rfl
@[simp] theorem State.frameEnded_alloc (s : State) (r : ResultCode) : (s.frameEnded r).alloc = s.alloc := rfl
@[simp] theorem State.frameEnded_shadowPointer (s : State) (r : ResultCode) :
    (s.frameEnded r).shadowPointer = s.shadowPointer := rfl
@[simp] theorem State.frameEnded_prime (s : State) (r : ResultCode) : (s.frameEnded r).prime = s.prime := rfl
@[simp] theorem State.frameEnded_settle (s : State) (r : ResultCode) :
    (s.frameEnded r).settle = s.settle := rfl
@[simp] theorem State.frameEnded_queue (s : State) (r : ResultCode) : (s.frameEnded r).queue = s.queue := rfl
@[simp] theorem State.frameEnded_drain (s : State) (r : ResultCode) : (s.frameEnded r).drain = s.drain := rfl
@[simp] theorem State.frameEnded_monitor (s : State) (r : ResultCode) :
    (s.frameEnded r).monitor = s.monitor := rfl
@[simp] theorem State.frameEnded_time (s : State) (r : ResultCode) : (s.frameEnded r).time = s.time := rfl
@[simp] theorem State.frameEnded_port (s : State) (r : ResultCode) :
    (s.frameEnded r).port = s.port.ended r := rfl
@[simp] theorem State.frameEnded_notices (s : State) (r : ResultCode) :
    (s.frameEnded r).notices = s.notices := rfl
@[simp] theorem State.frameEnded_pending (s : State) (r : ResultCode) :
    (s.frameEnded r).pending = s.pending := rfl

@[simp] theorem Port.ended_selected (p : Port) (r : ResultCode) : (p.ended r).selected = false := rfl
@[simp] theorem Port.ended_frame (p : Port) (r : ResultCode) : (p.ended r).frame = none := rfl
@[simp] theorem Port.ended_clock (p : Port) (r : ResultCode) : (p.ended r).clock = p.clock := rfl
@[simp] theorem Port.ended_bits (p : Port) (r : ResultCode) : (p.ended r).bits = p.bits := rfl
@[simp] theorem Port.ended_out (p : Port) (r : ResultCode) : (p.ended r).out = p.out := rfl
@[simp] theorem Port.ended_sent (p : Port) (r : ResultCode) : (p.ended r).sent = p.sent := rfl
@[simp] theorem Port.ended_lastResult (p : Port) (r : ResultCode) : (p.ended r).lastResult = r := rfl
@[simp] theorem Port.ended_parityCheck (p : Port) (r : ResultCode) : (p.ended r).parityCheck = p.parityCheck := rfl
@[simp] theorem Port.ended_autoclear (p : Port) (r : ResultCode) : (p.ended r).autoclear = p.autoclear := rfl
@[simp] theorem Port.ended_rstPartial (p : Port) (r : ResultCode) : (p.ended r).rstPartial = p.rstPartial := rfl
@[simp] theorem Port.ended_burstLimit (p : Port) (r : ResultCode) : (p.ended r).burstLimit = p.burstLimit := rfl

end Sys2Proof.Machine
end

