-- ==== Sys2Proof/Laws/Ops.lean ====
section
/-! SUPPORT. What each shared operation leaves alone: one lemma per operation, with every field of State it never
touches. -/

namespace Sys2Proof.Machine

@[simp] theorem State.invalidate_frame (s : State) (r : Fin 32) :
    (s.invalidate r).path = s.path ∧
    (s.invalidate r).arb = s.arb ∧
    (s.invalidate r).regions = s.regions ∧
    (s.invalidate r).staging = s.staging ∧
    (s.invalidate r).alloc = s.alloc ∧
    (s.invalidate r).shadowPointer = s.shadowPointer ∧
    (s.invalidate r).prime = s.prime ∧
    (s.invalidate r).settle = s.settle ∧
    (s.invalidate r).queue = s.queue ∧
    (s.invalidate r).drain = s.drain ∧
    (s.invalidate r).monitor = s.monitor ∧
    (s.invalidate r).time = s.time ∧
    (s.invalidate r).port = s.port ∧
    (s.invalidate r).notices = s.notices ∧
    (s.invalidate r).pending = s.pending := by
  unfold State.invalidate
  (repeat' split) <;> simp

@[simp] theorem State.clearNotices_frame (s : State) (bits : BitVec 11) :
    (s.clearNotices bits).arb = s.arb ∧
    (s.clearNotices bits).regions = s.regions ∧
    (s.clearNotices bits).staging = s.staging ∧
    (s.clearNotices bits).shadow = s.shadow ∧
    (s.clearNotices bits).alloc = s.alloc ∧
    (s.clearNotices bits).shadowPointer = s.shadowPointer ∧
    (s.clearNotices bits).prime = s.prime ∧
    (s.clearNotices bits).settle = s.settle ∧
    (s.clearNotices bits).queue = s.queue ∧
    (s.clearNotices bits).drain = s.drain ∧
    (s.clearNotices bits).monitor = s.monitor ∧
    (s.clearNotices bits).time = s.time ∧
    (s.clearNotices bits).port = s.port ∧
    (s.clearNotices bits).pending = s.pending := by
  simp [State.clearNotices]

@[simp] theorem State.enterRecord_frame (s : State) (x : Record) :
    (s.enterRecord x).path = s.path ∧
    (s.enterRecord x).arb = s.arb ∧
    (s.enterRecord x).regions = s.regions ∧
    (s.enterRecord x).staging = s.staging ∧
    (s.enterRecord x).shadow = s.shadow ∧
    (s.enterRecord x).alloc = s.alloc ∧
    (s.enterRecord x).shadowPointer = s.shadowPointer ∧
    (s.enterRecord x).prime = s.prime ∧
    (s.enterRecord x).settle = s.settle ∧
    (s.enterRecord x).drain = s.drain ∧
    (s.enterRecord x).monitor = s.monitor ∧
    (s.enterRecord x).time = s.time ∧
    (s.enterRecord x).port = s.port ∧
    (s.enterRecord x).pending = s.pending := by
  unfold State.enterRecord
  (repeat' split) <;> simp

@[simp] theorem State.loseRecord_frame (s : State) (x : Record) :
    (s.loseRecord x).path = s.path ∧
    (s.loseRecord x).arb = s.arb ∧
    (s.loseRecord x).regions = s.regions ∧
    (s.loseRecord x).staging = s.staging ∧
    (s.loseRecord x).shadow = s.shadow ∧
    (s.loseRecord x).alloc = s.alloc ∧
    (s.loseRecord x).shadowPointer = s.shadowPointer ∧
    (s.loseRecord x).prime = s.prime ∧
    (s.loseRecord x).settle = s.settle ∧
    (s.loseRecord x).drain = s.drain ∧
    (s.loseRecord x).monitor = s.monitor ∧
    (s.loseRecord x).time = s.time ∧
    (s.loseRecord x).port = s.port ∧
    (s.loseRecord x).pending = s.pending := by
  simp [State.loseRecord]

@[simp] theorem State.createRecord_frame (s : State) (b : Report) :
    (s.createRecord b).path = s.path ∧
    (s.createRecord b).arb = s.arb ∧
    (s.createRecord b).regions = s.regions ∧
    (s.createRecord b).staging = s.staging ∧
    (s.createRecord b).shadow = s.shadow ∧
    (s.createRecord b).alloc = s.alloc ∧
    (s.createRecord b).shadowPointer = s.shadowPointer ∧
    (s.createRecord b).prime = s.prime ∧
    (s.createRecord b).settle = s.settle ∧
    (s.createRecord b).drain = s.drain ∧
    (s.createRecord b).monitor = s.monitor ∧
    (s.createRecord b).time = s.time ∧
    (s.createRecord b).port = s.port ∧
    (s.createRecord b).pending = s.pending := by
  unfold State.createRecord
  (repeat' split) <;> simp

@[simp] theorem State.produce_frame (s : State) (b : Report) :
    (s.produce b).path = s.path ∧
    (s.produce b).arb = s.arb ∧
    (s.produce b).regions = s.regions ∧
    (s.produce b).staging = s.staging ∧
    (s.produce b).shadow = s.shadow ∧
    (s.produce b).alloc = s.alloc ∧
    (s.produce b).shadowPointer = s.shadowPointer ∧
    (s.produce b).prime = s.prime ∧
    (s.produce b).settle = s.settle ∧
    (s.produce b).drain = s.drain ∧
    (s.produce b).monitor = s.monitor ∧
    (s.produce b).time = s.time ∧
    (s.produce b).port = s.port ∧
    (s.produce b).pending = s.pending := by
  unfold State.produce
  (repeat' split) <;> simp

@[simp] theorem State.placeLoss_frame (s : State) :
    s.placeLoss.path = s.path ∧
    s.placeLoss.arb = s.arb ∧
    s.placeLoss.regions = s.regions ∧
    s.placeLoss.staging = s.staging ∧
    s.placeLoss.shadow = s.shadow ∧
    s.placeLoss.alloc = s.alloc ∧
    s.placeLoss.shadowPointer = s.shadowPointer ∧
    s.placeLoss.prime = s.prime ∧
    s.placeLoss.settle = s.settle ∧
    s.placeLoss.drain = s.drain ∧
    s.placeLoss.monitor = s.monitor ∧
    s.placeLoss.time = s.time ∧
    s.placeLoss.port = s.port ∧
    s.placeLoss.pending = s.pending := by
  unfold State.placeLoss
  (repeat' split) <;> simp

@[simp] theorem State.arbitrate_frame (s : State) :
    s.arbitrate.path = s.path ∧
    s.arbitrate.regions = s.regions ∧
    s.arbitrate.staging = s.staging ∧
    s.arbitrate.shadow = s.shadow ∧
    s.arbitrate.alloc = s.alloc ∧
    s.arbitrate.shadowPointer = s.shadowPointer ∧
    s.arbitrate.prime = s.prime ∧
    s.arbitrate.settle = s.settle ∧
    s.arbitrate.queue = s.queue ∧
    s.arbitrate.drain = s.drain ∧
    s.arbitrate.monitor = s.monitor ∧
    s.arbitrate.time = s.time ∧
    s.arbitrate.port = s.port ∧
    s.arbitrate.notices = s.notices ∧
    s.arbitrate.pending = s.pending := by
  unfold State.arbitrate
  (repeat' split) <;> simp

@[simp] theorem State.releasePort_frame (s : State) :
    s.releasePort.regions = s.regions ∧
    s.releasePort.staging = s.staging ∧
    s.releasePort.shadow = s.shadow ∧
    s.releasePort.alloc = s.alloc ∧
    s.releasePort.shadowPointer = s.shadowPointer ∧
    s.releasePort.prime = s.prime ∧
    s.releasePort.settle = s.settle ∧
    s.releasePort.queue = s.queue ∧
    s.releasePort.drain = s.drain ∧
    s.releasePort.monitor = s.monitor ∧
    s.releasePort.time = s.time ∧
    s.releasePort.port = s.port ∧
    s.releasePort.notices = s.notices ∧
    s.releasePort.pending = s.pending := by
  simp [State.releasePort]

@[simp] theorem State.endMasterCycle_frame (s : State) :
    s.endMasterCycle.regions = s.regions ∧
    s.endMasterCycle.staging = s.staging ∧
    s.endMasterCycle.shadow = s.shadow ∧
    s.endMasterCycle.alloc = s.alloc ∧
    s.endMasterCycle.shadowPointer = s.shadowPointer ∧
    s.endMasterCycle.prime = s.prime ∧
    s.endMasterCycle.settle = s.settle ∧
    s.endMasterCycle.queue = s.queue ∧
    s.endMasterCycle.drain = s.drain ∧
    s.endMasterCycle.monitor = s.monitor ∧
    s.endMasterCycle.time = s.time ∧
    s.endMasterCycle.port = s.port ∧
    s.endMasterCycle.notices = s.notices ∧
    s.endMasterCycle.pending = s.pending := by
  simp [State.endMasterCycle]

@[simp] theorem State.answerMaster_frame (s : State) (d : Option BusData) :
    (s.answerMaster d).arb = s.arb ∧
    (s.answerMaster d).regions = s.regions ∧
    (s.answerMaster d).staging = s.staging ∧
    (s.answerMaster d).shadow = s.shadow ∧
    (s.answerMaster d).alloc = s.alloc ∧
    (s.answerMaster d).shadowPointer = s.shadowPointer ∧
    (s.answerMaster d).prime = s.prime ∧
    (s.answerMaster d).settle = s.settle ∧
    (s.answerMaster d).queue = s.queue ∧
    (s.answerMaster d).drain = s.drain ∧
    (s.answerMaster d).monitor = s.monitor ∧
    (s.answerMaster d).time = s.time ∧
    (s.answerMaster d).port = s.port ∧
    (s.answerMaster d).notices = s.notices ∧
    (s.answerMaster d).pending = s.pending := by
  unfold State.answerMaster
  (repeat' split) <;> simp

@[simp] theorem State.completeRefused_frame (s : State) (c : MasterCycle) (e : Bool) :
    (s.completeRefused c e).regions = s.regions ∧
    (s.completeRefused c e).staging = s.staging ∧
    (s.completeRefused c e).shadow = s.shadow ∧
    (s.completeRefused c e).alloc = s.alloc ∧
    (s.completeRefused c e).shadowPointer = s.shadowPointer ∧
    (s.completeRefused c e).prime = s.prime ∧
    (s.completeRefused c e).settle = s.settle ∧
    (s.completeRefused c e).queue = s.queue ∧
    (s.completeRefused c e).drain = s.drain ∧
    (s.completeRefused c e).monitor = s.monitor ∧
    (s.completeRefused c e).time = s.time ∧
    (s.completeRefused c e).port = s.port ∧
    (s.completeRefused c e).notices = s.notices ∧
    (s.completeRefused c e).pending = s.pending := by
  simp [State.completeRefused]

@[simp] theorem State.countRefusal_frame (s : State) (r : Fin 32) (reason : Word) (c : MasterCycle) :
    (s.countRefusal r reason c).path = s.path ∧
    (s.countRefusal r reason c).arb = s.arb ∧
    (s.countRefusal r reason c).staging = s.staging ∧
    (s.countRefusal r reason c).shadow = s.shadow ∧
    (s.countRefusal r reason c).alloc = s.alloc ∧
    (s.countRefusal r reason c).shadowPointer = s.shadowPointer ∧
    (s.countRefusal r reason c).prime = s.prime ∧
    (s.countRefusal r reason c).settle = s.settle ∧
    (s.countRefusal r reason c).drain = s.drain ∧
    (s.countRefusal r reason c).monitor = s.monitor ∧
    (s.countRefusal r reason c).time = s.time ∧
    (s.countRefusal r reason c).port = s.port ∧
    (s.countRefusal r reason c).pending = s.pending := by
  unfold State.countRefusal
  (repeat' split) <;> simp

@[simp] theorem State.countClash_frame (s : State) (c : MasterCycle) :
    (s.countClash c).arb = s.arb ∧
    (s.countClash c).regions = s.regions ∧
    (s.countClash c).staging = s.staging ∧
    (s.countClash c).shadow = s.shadow ∧
    (s.countClash c).alloc = s.alloc ∧
    (s.countClash c).shadowPointer = s.shadowPointer ∧
    (s.countClash c).prime = s.prime ∧
    (s.countClash c).settle = s.settle ∧
    (s.countClash c).drain = s.drain ∧
    (s.countClash c).monitor = s.monitor ∧
    (s.countClash c).time = s.time ∧
    (s.countClash c).port = s.port ∧
    (s.countClash c).pending = s.pending := by
  unfold State.countClash
  (repeat' split) <;> simp

@[simp] theorem State.checkParity_frame (s : State) (d : Direction) (a : Addr) (en : BitVec 2) (x : Word) (l : BitVec 2) :
    (s.checkParity d a en x l).path = s.path ∧
    (s.checkParity d a en x l).arb = s.arb ∧
    (s.checkParity d a en x l).regions = s.regions ∧
    (s.checkParity d a en x l).staging = s.staging ∧
    (s.checkParity d a en x l).shadow = s.shadow ∧
    (s.checkParity d a en x l).alloc = s.alloc ∧
    (s.checkParity d a en x l).shadowPointer = s.shadowPointer ∧
    (s.checkParity d a en x l).prime = s.prime ∧
    (s.checkParity d a en x l).settle = s.settle ∧
    (s.checkParity d a en x l).drain = s.drain ∧
    (s.checkParity d a en x l).monitor = s.monitor ∧
    (s.checkParity d a en x l).time = s.time ∧
    (s.checkParity d a en x l).port = s.port ∧
    (s.checkParity d a en x l).pending = s.pending := by
  unfold State.checkParity
  (repeat' split) <;> simp

@[simp] theorem State.recordChange_frame (s : State) (r : Fin 32) (a : Addr) (old new : Word) (st un : Bool) :
    (s.recordChange r a old new st un).path = s.path ∧
    (s.recordChange r a old new st un).arb = s.arb ∧
    (s.recordChange r a old new st un).staging = s.staging ∧
    (s.recordChange r a old new st un).shadow = s.shadow ∧
    (s.recordChange r a old new st un).alloc = s.alloc ∧
    (s.recordChange r a old new st un).shadowPointer = s.shadowPointer ∧
    (s.recordChange r a old new st un).prime = s.prime ∧
    (s.recordChange r a old new st un).settle = s.settle ∧
    (s.recordChange r a old new st un).drain = s.drain ∧
    (s.recordChange r a old new st un).monitor = s.monitor ∧
    (s.recordChange r a old new st un).time = s.time ∧
    (s.recordChange r a old new st un).port = s.port ∧
    (s.recordChange r a old new st un).pending = s.pending := by
  simp [State.recordChange]

@[simp] theorem State.detect_frame (s : State) (r : Fin 32) (a : Addr) (old new : Word) :
    (s.detect r a old new).path = s.path ∧
    (s.detect r a old new).arb = s.arb ∧
    (s.detect r a old new).staging = s.staging ∧
    (s.detect r a old new).shadow = s.shadow ∧
    (s.detect r a old new).alloc = s.alloc ∧
    (s.detect r a old new).shadowPointer = s.shadowPointer ∧
    (s.detect r a old new).prime = s.prime ∧
    (s.detect r a old new).drain = s.drain ∧
    (s.detect r a old new).monitor = s.monitor ∧
    (s.detect r a old new).time = s.time ∧
    (s.detect r a old new).port = s.port ∧
    (s.detect r a old new).pending = s.pending := by
  unfold State.detect
  dsimp only
  (repeat' split) <;> simp

@[simp] theorem State.expireEntry_frame (s : State) (e : SettleEntry) :
    (s.expireEntry e).path = s.path ∧
    (s.expireEntry e).arb = s.arb ∧
    (s.expireEntry e).staging = s.staging ∧
    (s.expireEntry e).shadow = s.shadow ∧
    (s.expireEntry e).alloc = s.alloc ∧
    (s.expireEntry e).shadowPointer = s.shadowPointer ∧
    (s.expireEntry e).prime = s.prime ∧
    (s.expireEntry e).settle = s.settle ∧
    (s.expireEntry e).drain = s.drain ∧
    (s.expireEntry e).monitor = s.monitor ∧
    (s.expireEntry e).time = s.time ∧
    (s.expireEntry e).port = s.port ∧
    (s.expireEntry e).pending = s.pending := by
  simp [State.expireEntry]

@[simp] theorem State.expireEntries_frame (entries : List SettleEntry) (s : State) :
    (entries.foldl State.expireEntry s).path = s.path ∧
    (entries.foldl State.expireEntry s).arb = s.arb ∧
    (entries.foldl State.expireEntry s).staging = s.staging ∧
    (entries.foldl State.expireEntry s).shadow = s.shadow ∧
    (entries.foldl State.expireEntry s).alloc = s.alloc ∧
    (entries.foldl State.expireEntry s).shadowPointer = s.shadowPointer ∧
    (entries.foldl State.expireEntry s).prime = s.prime ∧
    (entries.foldl State.expireEntry s).drain = s.drain ∧
    (entries.foldl State.expireEntry s).monitor = s.monitor ∧
    (entries.foldl State.expireEntry s).time = s.time ∧
    (entries.foldl State.expireEntry s).port = s.port ∧
    (entries.foldl State.expireEntry s).pending = s.pending ∧
    (entries.foldl State.expireEntry s).settle = s.settle := by
  induction entries generalizing s with
  | nil => simp
  | cons e rest ih => simp [ih]

@[simp] theorem State.settleTick_frame (s : State) :
    s.settleTick.path = s.path ∧
    s.settleTick.arb = s.arb ∧
    s.settleTick.staging = s.staging ∧
    s.settleTick.shadow = s.shadow ∧
    s.settleTick.alloc = s.alloc ∧
    s.settleTick.shadowPointer = s.shadowPointer ∧
    s.settleTick.prime = s.prime ∧
    s.settleTick.drain = s.drain ∧
    s.settleTick.monitor = s.monitor ∧
    s.settleTick.time = s.time ∧
    s.settleTick.port = s.port ∧
    s.settleTick.pending = s.pending := by
  simp [State.settleTick]

@[simp] theorem State.verifyRead_frame (s : State) (r : Fin 32) (a : Addr) (k : Nat) (held d : Word) :
    (s.verifyRead r a k held d).path = s.path ∧
    (s.verifyRead r a k held d).arb = s.arb ∧
    (s.verifyRead r a k held d).staging = s.staging ∧
    (s.verifyRead r a k held d).alloc = s.alloc ∧
    (s.verifyRead r a k held d).shadowPointer = s.shadowPointer ∧
    (s.verifyRead r a k held d).prime = s.prime ∧
    (s.verifyRead r a k held d).drain = s.drain ∧
    (s.verifyRead r a k held d).monitor = s.monitor ∧
    (s.verifyRead r a k held d).time = s.time ∧
    (s.verifyRead r a k held d).port = s.port ∧
    (s.verifyRead r a k held d).pending = s.pending := by
  unfold State.verifyRead
  (repeat' split) <;> simp

@[simp] theorem State.judgeAlert_frame (s : State) (r : Fin 32) (a : Addr) :
    (s.judgeAlert r a).path = s.path ∧
    (s.judgeAlert r a).arb = s.arb ∧
    (s.judgeAlert r a).staging = s.staging ∧
    (s.judgeAlert r a).shadow = s.shadow ∧
    (s.judgeAlert r a).alloc = s.alloc ∧
    (s.judgeAlert r a).shadowPointer = s.shadowPointer ∧
    (s.judgeAlert r a).prime = s.prime ∧
    (s.judgeAlert r a).settle = s.settle ∧
    (s.judgeAlert r a).drain = s.drain ∧
    (s.judgeAlert r a).monitor = s.monitor ∧
    (s.judgeAlert r a).time = s.time ∧
    (s.judgeAlert r a).port = s.port ∧
    (s.judgeAlert r a).pending = s.pending := by
  unfold State.judgeAlert
  dsimp only
  (repeat' split) <;> simp

@[simp] theorem State.judgeTrip_frame (s : State) (r : Fin 32) (a : Option Addr) :
    (s.judgeTrip r a).path = s.path ∧
    (s.judgeTrip r a).arb = s.arb ∧
    (s.judgeTrip r a).staging = s.staging ∧
    (s.judgeTrip r a).shadow = s.shadow ∧
    (s.judgeTrip r a).alloc = s.alloc ∧
    (s.judgeTrip r a).shadowPointer = s.shadowPointer ∧
    (s.judgeTrip r a).prime = s.prime ∧
    (s.judgeTrip r a).settle = s.settle ∧
    (s.judgeTrip r a).drain = s.drain ∧
    (s.judgeTrip r a).monitor = s.monitor ∧
    (s.judgeTrip r a).time = s.time ∧
    (s.judgeTrip r a).port = s.port ∧
    (s.judgeTrip r a).pending = s.pending := by
  unfold State.judgeTrip
  dsimp only
  (repeat' split) <;> simp

@[simp] theorem State.integrate_frame (s : State) (r : Fin 32) (a : Addr) :
    (s.integrate r a).path = s.path ∧
    (s.integrate r a).arb = s.arb ∧
    (s.integrate r a).staging = s.staging ∧
    (s.integrate r a).shadow = s.shadow ∧
    (s.integrate r a).alloc = s.alloc ∧
    (s.integrate r a).shadowPointer = s.shadowPointer ∧
    (s.integrate r a).prime = s.prime ∧
    (s.integrate r a).settle = s.settle ∧
    (s.integrate r a).drain = s.drain ∧
    (s.integrate r a).monitor = s.monitor ∧
    (s.integrate r a).time = s.time ∧
    (s.integrate r a).port = s.port ∧
    (s.integrate r a).pending = s.pending := by
  unfold State.integrate
  (repeat' split) <;> simp

@[simp] theorem State.decayAll_frame (s : State) :
    s.decayAll.path = s.path ∧
    s.decayAll.arb = s.arb ∧
    s.decayAll.staging = s.staging ∧
    s.decayAll.shadow = s.shadow ∧
    s.decayAll.alloc = s.alloc ∧
    s.decayAll.shadowPointer = s.shadowPointer ∧
    s.decayAll.prime = s.prime ∧
    s.decayAll.settle = s.settle ∧
    s.decayAll.queue = s.queue ∧
    s.decayAll.drain = s.drain ∧
    s.decayAll.monitor = s.monitor ∧
    s.decayAll.time = s.time ∧
    s.decayAll.port = s.port ∧
    s.decayAll.notices = s.notices ∧
    s.decayAll.pending = s.pending := by
  simp [State.decayAll]

@[simp] theorem State.shadowWrite_frame (s : State) (r : Fin 32) (a : Addr) (en : BitVec 2) (d : Word) :
    (s.shadowWrite r a en d).path = s.path ∧
    (s.shadowWrite r a en d).arb = s.arb ∧
    (s.shadowWrite r a en d).staging = s.staging ∧
    (s.shadowWrite r a en d).alloc = s.alloc ∧
    (s.shadowWrite r a en d).shadowPointer = s.shadowPointer ∧
    (s.shadowWrite r a en d).prime = s.prime ∧
    (s.shadowWrite r a en d).drain = s.drain ∧
    (s.shadowWrite r a en d).monitor = s.monitor ∧
    (s.shadowWrite r a en d).time = s.time ∧
    (s.shadowWrite r a en d).port = s.port ∧
    (s.shadowWrite r a en d).pending = s.pending := by
  unfold State.shadowWrite
  (repeat' split) <;> simp

@[simp] theorem State.shadowRead_frame (s : State) (r : Fin 32) (a : Addr) (d : Word) :
    (s.shadowRead r a d).path = s.path ∧
    (s.shadowRead r a d).arb = s.arb ∧
    (s.shadowRead r a d).staging = s.staging ∧
    (s.shadowRead r a d).alloc = s.alloc ∧
    (s.shadowRead r a d).shadowPointer = s.shadowPointer ∧
    (s.shadowRead r a d).prime = s.prime ∧
    (s.shadowRead r a d).drain = s.drain ∧
    (s.shadowRead r a d).monitor = s.monitor ∧
    (s.shadowRead r a d).time = s.time ∧
    (s.shadowRead r a d).port = s.port ∧
    (s.shadowRead r a d).pending = s.pending := by
  unfold State.shadowRead
  (repeat' split) <;> simp

@[simp] theorem State.consumeWrite_frame (s : State) (a : Addr) (en : BitVec 2) (d : Word) :
    (s.consumeWrite a en d).path = s.path ∧
    (s.consumeWrite a en d).arb = s.arb ∧
    (s.consumeWrite a en d).staging = s.staging ∧
    (s.consumeWrite a en d).alloc = s.alloc ∧
    (s.consumeWrite a en d).shadowPointer = s.shadowPointer ∧
    (s.consumeWrite a en d).prime = s.prime ∧
    (s.consumeWrite a en d).drain = s.drain ∧
    (s.consumeWrite a en d).monitor = s.monitor ∧
    (s.consumeWrite a en d).time = s.time ∧
    (s.consumeWrite a en d).port = s.port ∧
    (s.consumeWrite a en d).pending = s.pending := by
  unfold State.consumeWrite
  (repeat' split) <;> simp

@[simp] theorem State.consumeRead_frame (s : State) (a : Addr) (en : BitVec 2) (d : Word) (l : BitVec 2) :
    (s.consumeRead a en d l).path = s.path ∧
    (s.consumeRead a en d l).arb = s.arb ∧
    (s.consumeRead a en d l).staging = s.staging ∧
    (s.consumeRead a en d l).alloc = s.alloc ∧
    (s.consumeRead a en d l).shadowPointer = s.shadowPointer ∧
    (s.consumeRead a en d l).prime = s.prime ∧
    (s.consumeRead a en d l).drain = s.drain ∧
    (s.consumeRead a en d l).monitor = s.monitor ∧
    (s.consumeRead a en d l).time = s.time ∧
    (s.consumeRead a en d l).port = s.port ∧
    (s.consumeRead a en d l).pending = s.pending := by
  unfold State.consumeRead
  (repeat' split) <;> simp

@[simp] theorem State.completePriming_frame (s : State) (r : Fin 32) :
    (s.completePriming r).path = s.path ∧
    (s.completePriming r).arb = s.arb ∧
    (s.completePriming r).staging = s.staging ∧
    (s.completePriming r).shadow = s.shadow ∧
    (s.completePriming r).alloc = s.alloc ∧
    (s.completePriming r).shadowPointer = s.shadowPointer ∧
    (s.completePriming r).prime = s.prime ∧
    (s.completePriming r).settle = s.settle ∧
    (s.completePriming r).drain = s.drain ∧
    (s.completePriming r).monitor = s.monitor ∧
    (s.completePriming r).time = s.time ∧
    (s.completePriming r).port = s.port ∧
    (s.completePriming r).pending = s.pending := by
  simp [State.completePriming]

@[simp] theorem primeSteps_frame (n : Nat) (s : State) :
    (primeSteps n s).path = s.path ∧
    (primeSteps n s).arb = s.arb ∧
    (primeSteps n s).staging = s.staging ∧
    (primeSteps n s).shadow = s.shadow ∧
    (primeSteps n s).alloc = s.alloc ∧
    (primeSteps n s).shadowPointer = s.shadowPointer ∧
    (primeSteps n s).settle = s.settle ∧
    (primeSteps n s).drain = s.drain ∧
    (primeSteps n s).monitor = s.monitor ∧
    (primeSteps n s).time = s.time ∧
    (primeSteps n s).port = s.port ∧
    (primeSteps n s).pending = s.pending := by
  induction n generalizing s with
  | zero => simp [primeSteps]
  | succ n ih =>
    unfold primeSteps
    (repeat' split) <;> simp [ih]

@[simp] theorem State.primeStep_frame (s : State) :
    s.primeStep.path = s.path ∧
    s.primeStep.arb = s.arb ∧
    s.primeStep.staging = s.staging ∧
    s.primeStep.shadow = s.shadow ∧
    s.primeStep.alloc = s.alloc ∧
    s.primeStep.shadowPointer = s.shadowPointer ∧
    s.primeStep.settle = s.settle ∧
    s.primeStep.drain = s.drain ∧
    s.primeStep.monitor = s.monitor ∧
    s.primeStep.time = s.time ∧
    s.primeStep.port = s.port ∧
    s.primeStep.pending = s.pending := by
  unfold State.primeStep
  (repeat' split) <;> simp

@[simp] theorem State.primeLeft_frame (s : State) :
    s.primeLeft.path = s.path ∧
    s.primeLeft.arb = s.arb ∧
    s.primeLeft.staging = s.staging ∧
    s.primeLeft.shadow = s.shadow ∧
    s.primeLeft.alloc = s.alloc ∧
    s.primeLeft.shadowPointer = s.shadowPointer ∧
    s.primeLeft.settle = s.settle ∧
    s.primeLeft.drain = s.drain ∧
    s.primeLeft.monitor = s.monitor ∧
    s.primeLeft.time = s.time ∧
    s.primeLeft.port = s.port ∧
    s.primeLeft.pending = s.pending := by
  unfold State.primeLeft
  (repeat' split) <;> simp

@[simp] theorem State.takePrime_frame (s : State) (p : PrimeRead) (d : Word) :
    (s.takePrime p d).path = s.path ∧
    (s.takePrime p d).arb = s.arb ∧
    (s.takePrime p d).staging = s.staging ∧
    (s.takePrime p d).alloc = s.alloc ∧
    (s.takePrime p d).shadowPointer = s.shadowPointer ∧
    (s.takePrime p d).prime = s.prime ∧
    (s.takePrime p d).settle = s.settle ∧
    (s.takePrime p d).queue = s.queue ∧
    (s.takePrime p d).drain = s.drain ∧
    (s.takePrime p d).monitor = s.monitor ∧
    (s.takePrime p d).time = s.time ∧
    (s.takePrime p d).port = s.port ∧
    (s.takePrime p d).notices = s.notices ∧
    (s.takePrime p d).pending = s.pending := by
  unfold State.takePrime
  (repeat' split) <;> simp

@[simp] theorem State.driveWord_frame (s : State) (k : Nat) :
    (s.driveWord k).arb = s.arb ∧
    (s.driveWord k).regions = s.regions ∧
    (s.driveWord k).staging = s.staging ∧
    (s.driveWord k).shadow = s.shadow ∧
    (s.driveWord k).alloc = s.alloc ∧
    (s.driveWord k).shadowPointer = s.shadowPointer ∧
    (s.driveWord k).prime = s.prime ∧
    (s.driveWord k).settle = s.settle ∧
    (s.driveWord k).queue = s.queue ∧
    (s.driveWord k).monitor = s.monitor ∧
    (s.driveWord k).time = s.time ∧
    (s.driveWord k).port = s.port ∧
    (s.driveWord k).notices = s.notices ∧
    (s.driveWord k).pending = s.pending := by
  unfold State.driveWord
  (repeat' split) <;> simp

@[simp] theorem State.drivePad_frame (s : State) (k : Nat) :
    (s.drivePad k).arb = s.arb ∧
    (s.drivePad k).regions = s.regions ∧
    (s.drivePad k).staging = s.staging ∧
    (s.drivePad k).shadow = s.shadow ∧
    (s.drivePad k).alloc = s.alloc ∧
    (s.drivePad k).shadowPointer = s.shadowPointer ∧
    (s.drivePad k).prime = s.prime ∧
    (s.drivePad k).settle = s.settle ∧
    (s.drivePad k).queue = s.queue ∧
    (s.drivePad k).monitor = s.monitor ∧
    (s.drivePad k).time = s.time ∧
    (s.drivePad k).port = s.port ∧
    (s.drivePad k).notices = s.notices ∧
    (s.drivePad k).pending = s.pending := by
  unfold State.drivePad
  (repeat' split) <;> simp

@[simp] theorem State.endFreeze_frame (s : State) (c : Completeness) :
    (s.endFreeze c).path = s.path ∧
    (s.endFreeze c).arb = s.arb ∧
    (s.endFreeze c).regions = s.regions ∧
    (s.endFreeze c).staging = s.staging ∧
    (s.endFreeze c).shadow = s.shadow ∧
    (s.endFreeze c).alloc = s.alloc ∧
    (s.endFreeze c).shadowPointer = s.shadowPointer ∧
    (s.endFreeze c).prime = s.prime ∧
    (s.endFreeze c).settle = s.settle ∧
    (s.endFreeze c).queue = s.queue ∧
    (s.endFreeze c).drain = s.drain ∧
    (s.endFreeze c).time = s.time ∧
    (s.endFreeze c).port = s.port ∧
    (s.endFreeze c).pending = s.pending := by
  simp [State.endFreeze]

@[simp] theorem State.endMark_frame (s : State) :
    s.endMark.path = s.path ∧
    s.endMark.arb = s.arb ∧
    s.endMark.regions = s.regions ∧
    s.endMark.staging = s.staging ∧
    s.endMark.shadow = s.shadow ∧
    s.endMark.alloc = s.alloc ∧
    s.endMark.shadowPointer = s.shadowPointer ∧
    s.endMark.prime = s.prime ∧
    s.endMark.settle = s.settle ∧
    s.endMark.queue = s.queue ∧
    s.endMark.time = s.time ∧
    s.endMark.port = s.port ∧
    s.endMark.pending = s.pending := by
  unfold State.endMark
  (repeat' split) <;> simp

@[simp] theorem State.completeMark_frame (s : State) :
    s.completeMark.path = s.path ∧
    s.completeMark.arb = s.arb ∧
    s.completeMark.regions = s.regions ∧
    s.completeMark.staging = s.staging ∧
    s.completeMark.shadow = s.shadow ∧
    s.completeMark.alloc = s.alloc ∧
    s.completeMark.shadowPointer = s.shadowPointer ∧
    s.completeMark.prime = s.prime ∧
    s.completeMark.settle = s.settle ∧
    s.completeMark.queue = s.queue ∧
    s.completeMark.time = s.time ∧
    s.completeMark.port = s.port ∧
    s.completeMark.pending = s.pending := by
  unfold State.completeMark
  (repeat' split) <;> simp

@[simp] theorem State.closeLink_frame (s : State) (i : Fin 8) (c : CloseReason) :
    (s.closeLink i c).path = s.path ∧
    (s.closeLink i c).arb = s.arb ∧
    (s.closeLink i c).regions = s.regions ∧
    (s.closeLink i c).staging = s.staging ∧
    (s.closeLink i c).shadow = s.shadow ∧
    (s.closeLink i c).alloc = s.alloc ∧
    (s.closeLink i c).shadowPointer = s.shadowPointer ∧
    (s.closeLink i c).prime = s.prime ∧
    (s.closeLink i c).settle = s.settle ∧
    (s.closeLink i c).queue = s.queue ∧
    (s.closeLink i c).monitor = s.monitor ∧
    (s.closeLink i c).time = s.time ∧
    (s.closeLink i c).port = s.port ∧
    (s.closeLink i c).pending = s.pending := by
  unfold State.closeLink
  (repeat' split) <;> simp

@[simp] theorem State.endChain_frame (s : State) :
    s.endChain.path = s.path ∧
    s.endChain.arb = s.arb ∧
    s.endChain.regions = s.regions ∧
    s.endChain.staging = s.staging ∧
    s.endChain.shadow = s.shadow ∧
    s.endChain.alloc = s.alloc ∧
    s.endChain.shadowPointer = s.shadowPointer ∧
    s.endChain.prime = s.prime ∧
    s.endChain.settle = s.settle ∧
    s.endChain.queue = s.queue ∧
    s.endChain.monitor = s.monitor ∧
    s.endChain.time = s.time ∧
    s.endChain.port = s.port ∧
    s.endChain.pending = s.pending := by
  simp [State.endChain]

@[simp] theorem State.starve_frame (s : State) :
    s.starve.path = s.path ∧
    s.starve.arb = s.arb ∧
    s.starve.regions = s.regions ∧
    s.starve.staging = s.staging ∧
    s.starve.shadow = s.shadow ∧
    s.starve.alloc = s.alloc ∧
    s.starve.shadowPointer = s.shadowPointer ∧
    s.starve.prime = s.prime ∧
    s.starve.settle = s.settle ∧
    s.starve.queue = s.queue ∧
    s.starve.monitor = s.monitor ∧
    s.starve.time = s.time ∧
    s.starve.port = s.port ∧
    s.starve.pending = s.pending := by
  simp [State.starve]

@[simp] theorem State.activateLink_frame (s : State) (i : Fin 8) :
    (s.activateLink i).path = s.path ∧
    (s.activateLink i).arb = s.arb ∧
    (s.activateLink i).regions = s.regions ∧
    (s.activateLink i).staging = s.staging ∧
    (s.activateLink i).shadow = s.shadow ∧
    (s.activateLink i).alloc = s.alloc ∧
    (s.activateLink i).shadowPointer = s.shadowPointer ∧
    (s.activateLink i).prime = s.prime ∧
    (s.activateLink i).settle = s.settle ∧
    (s.activateLink i).queue = s.queue ∧
    (s.activateLink i).monitor = s.monitor ∧
    (s.activateLink i).time = s.time ∧
    (s.activateLink i).port = s.port ∧
    (s.activateLink i).notices = s.notices ∧
    (s.activateLink i).pending = s.pending := by
  simp [State.activateLink]

@[simp] theorem State.advance_frame (s : State) (i : Fin 8) :
    (s.advance i).path = s.path ∧
    (s.advance i).arb = s.arb ∧
    (s.advance i).regions = s.regions ∧
    (s.advance i).staging = s.staging ∧
    (s.advance i).shadow = s.shadow ∧
    (s.advance i).alloc = s.alloc ∧
    (s.advance i).shadowPointer = s.shadowPointer ∧
    (s.advance i).prime = s.prime ∧
    (s.advance i).settle = s.settle ∧
    (s.advance i).queue = s.queue ∧
    (s.advance i).time = s.time ∧
    (s.advance i).port = s.port ∧
    (s.advance i).pending = s.pending := by
  unfold State.advance
  dsimp only
  (repeat' split) <;> simp

@[simp] theorem State.closeFull_frame (s : State) (i : Fin 8) :
    (s.closeFull i).path = s.path ∧
    (s.closeFull i).arb = s.arb ∧
    (s.closeFull i).regions = s.regions ∧
    (s.closeFull i).staging = s.staging ∧
    (s.closeFull i).shadow = s.shadow ∧
    (s.closeFull i).alloc = s.alloc ∧
    (s.closeFull i).shadowPointer = s.shadowPointer ∧
    (s.closeFull i).prime = s.prime ∧
    (s.closeFull i).settle = s.settle ∧
    (s.closeFull i).queue = s.queue ∧
    (s.closeFull i).time = s.time ∧
    (s.closeFull i).port = s.port ∧
    (s.closeFull i).pending = s.pending := by
  unfold State.closeFull
  (repeat' split) <;> simp

@[simp] theorem State.completeFlush_frame (s : State) :
    s.completeFlush.path = s.path ∧
    s.completeFlush.arb = s.arb ∧
    s.completeFlush.regions = s.regions ∧
    s.completeFlush.staging = s.staging ∧
    s.completeFlush.shadow = s.shadow ∧
    s.completeFlush.alloc = s.alloc ∧
    s.completeFlush.shadowPointer = s.shadowPointer ∧
    s.completeFlush.prime = s.prime ∧
    s.completeFlush.settle = s.settle ∧
    s.completeFlush.queue = s.queue ∧
    s.completeFlush.time = s.time ∧
    s.completeFlush.port = s.port ∧
    s.completeFlush.pending = s.pending := by
  unfold State.completeFlush
  (repeat' split) <;> simp

@[simp] theorem State.settleAbort_frame (s : State) (i : Fin 8) :
    (s.settleAbort i).path = s.path ∧
    (s.settleAbort i).arb = s.arb ∧
    (s.settleAbort i).regions = s.regions ∧
    (s.settleAbort i).staging = s.staging ∧
    (s.settleAbort i).shadow = s.shadow ∧
    (s.settleAbort i).alloc = s.alloc ∧
    (s.settleAbort i).shadowPointer = s.shadowPointer ∧
    (s.settleAbort i).prime = s.prime ∧
    (s.settleAbort i).settle = s.settle ∧
    (s.settleAbort i).queue = s.queue ∧
    (s.settleAbort i).monitor = s.monitor ∧
    (s.settleAbort i).time = s.time ∧
    (s.settleAbort i).port = s.port ∧
    (s.settleAbort i).pending = s.pending := by
  unfold State.settleAbort
  (repeat' split) <;> simp

@[simp] theorem State.carryOutAbort_frame (s : State) :
    s.carryOutAbort.path = s.path ∧
    s.carryOutAbort.arb = s.arb ∧
    s.carryOutAbort.regions = s.regions ∧
    s.carryOutAbort.staging = s.staging ∧
    s.carryOutAbort.shadow = s.shadow ∧
    s.carryOutAbort.alloc = s.alloc ∧
    s.carryOutAbort.shadowPointer = s.shadowPointer ∧
    s.carryOutAbort.prime = s.prime ∧
    s.carryOutAbort.settle = s.settle ∧
    s.carryOutAbort.queue = s.queue ∧
    s.carryOutAbort.monitor = s.monitor ∧
    s.carryOutAbort.time = s.time ∧
    s.carryOutAbort.port = s.port ∧
    s.carryOutAbort.pending = s.pending := by
  unfold State.carryOutAbort
  (repeat' split) <;> simp

@[simp] theorem State.recordWritten_frame (s : State) (i : Fin 8) :
    (s.recordWritten i).regions = s.regions ∧
    (s.recordWritten i).staging = s.staging ∧
    (s.recordWritten i).shadow = s.shadow ∧
    (s.recordWritten i).alloc = s.alloc ∧
    (s.recordWritten i).shadowPointer = s.shadowPointer ∧
    (s.recordWritten i).prime = s.prime ∧
    (s.recordWritten i).settle = s.settle ∧
    (s.recordWritten i).monitor = s.monitor ∧
    (s.recordWritten i).time = s.time ∧
    (s.recordWritten i).port = s.port ∧
    (s.recordWritten i).pending = s.pending := by
  simp [State.recordWritten]

@[simp] theorem State.judgeClosure_frame (s : State) (i : Fin 8) :
    (s.judgeClosure i).regions = s.regions ∧
    (s.judgeClosure i).staging = s.staging ∧
    (s.judgeClosure i).shadow = s.shadow ∧
    (s.judgeClosure i).alloc = s.alloc ∧
    (s.judgeClosure i).shadowPointer = s.shadowPointer ∧
    (s.judgeClosure i).prime = s.prime ∧
    (s.judgeClosure i).settle = s.settle ∧
    (s.judgeClosure i).queue = s.queue ∧
    (s.judgeClosure i).time = s.time ∧
    (s.judgeClosure i).port = s.port ∧
    (s.judgeClosure i).pending = s.pending := by
  unfold State.judgeClosure
  (repeat' split) <;> simp

@[simp] theorem State.padsWritten_frame (s : State) (i : Fin 8) :
    (s.padsWritten i).regions = s.regions ∧
    (s.padsWritten i).staging = s.staging ∧
    (s.padsWritten i).shadow = s.shadow ∧
    (s.padsWritten i).alloc = s.alloc ∧
    (s.padsWritten i).shadowPointer = s.shadowPointer ∧
    (s.padsWritten i).prime = s.prime ∧
    (s.padsWritten i).settle = s.settle ∧
    (s.padsWritten i).queue = s.queue ∧
    (s.padsWritten i).time = s.time ∧
    (s.padsWritten i).port = s.port ∧
    (s.padsWritten i).pending = s.pending := by
  unfold State.padsWritten
  (repeat' split) <;> simp

@[simp] theorem State.tickCounters_frame (s : State) :
    s.tickCounters.path = s.path ∧
    s.tickCounters.arb = s.arb ∧
    s.tickCounters.staging = s.staging ∧
    s.tickCounters.shadow = s.shadow ∧
    s.tickCounters.alloc = s.alloc ∧
    s.tickCounters.shadowPointer = s.shadowPointer ∧
    s.tickCounters.prime = s.prime ∧
    s.tickCounters.settle = s.settle ∧
    s.tickCounters.queue = s.queue ∧
    s.tickCounters.drain = s.drain ∧
    s.tickCounters.monitor = s.monitor ∧
    s.tickCounters.port = s.port ∧
    s.tickCounters.notices = s.notices ∧
    s.tickCounters.pending = s.pending := by
  unfold State.tickCounters
  dsimp only
  (repeat' split) <;> simp

@[simp] theorem State.tick_frame (s : State) :
    s.tick.path = s.path ∧
    s.tick.staging = s.staging ∧
    s.tick.shadow = s.shadow ∧
    s.tick.alloc = s.alloc ∧
    s.tick.shadowPointer = s.shadowPointer ∧
    s.tick.prime = s.prime ∧
    s.tick.drain = s.drain ∧
    s.tick.monitor = s.monitor ∧
    s.tick.port = s.port ∧
    s.tick.pending = s.pending := by
  simp [State.tick]

@[simp] theorem State.resetPath_frame (s : State) :
    s.resetPath.regions = s.regions ∧
    s.resetPath.staging = s.staging ∧
    s.resetPath.shadow = s.shadow ∧
    s.resetPath.alloc = s.alloc ∧
    s.resetPath.shadowPointer = s.shadowPointer ∧
    s.resetPath.settle = s.settle ∧
    s.resetPath.queue = s.queue ∧
    s.resetPath.drain = s.drain ∧
    s.resetPath.monitor = s.monitor ∧
    s.resetPath.time = s.time ∧
    s.resetPath.port = s.port ∧
    s.resetPath.notices = s.notices ∧
    s.resetPath.pending = s.pending := by
  simp [State.resetPath]

/-- Invalidating the acting regions' words touches the Shadow Store alone. -/
@[simp] theorem State.invalidateActing_frame (s : State) :
    s.invalidateActing.path = s.path ∧
    s.invalidateActing.arb = s.arb ∧
    s.invalidateActing.regions = s.regions ∧
    s.invalidateActing.staging = s.staging ∧
    s.invalidateActing.alloc = s.alloc ∧
    s.invalidateActing.shadowPointer = s.shadowPointer ∧
    s.invalidateActing.prime = s.prime ∧
    s.invalidateActing.settle = s.settle ∧
    s.invalidateActing.queue = s.queue ∧
    s.invalidateActing.drain = s.drain ∧
    s.invalidateActing.monitor = s.monitor ∧
    s.invalidateActing.time = s.time ∧
    s.invalidateActing.port = s.port ∧
    s.invalidateActing.notices = s.notices ∧
    s.invalidateActing.pending = s.pending := by
  have keep : ∀ (l : List (Fin 32)) (u : State),
      (l.foldl (fun t r => if (s.region r).acting then t.invalidate r else t) u) =
        { u with shadow :=
          (l.foldl (fun t r => if (s.region r).acting then t.invalidate r else t) u).shadow } := by
    intro l
    induction l with
    | nil => intro u; rfl
    | cons r rest ih =>
      intro u
      rw [List.foldl_cons, ih]
      split
      · unfold State.invalidate
        split <;> rfl
      · rfl
  unfold State.invalidateActing
  rw [keep]
  simp

end Sys2Proof.Machine
end

