-- ==== Sys2Proof/Laws/Detail.lean ====
section
/-! SUPPORT. Reading one record of a changed table, and what the operations leave alone inside the fields they touch:
state and configuration of the regions, the high mark, the notice mask. Records are read as `regions.get` and
`drain.links.get`. -/

namespace Sys2Proof.Machine

/-! ### Reading a record -/

@[simp] theorem State.region_eq (s : State) (r : Fin 32) : s.region r = s.regions.get r := by
  simp only [State.region]

@[simp] theorem State.link_eq (s : State) (i : Fin 8) : s.link i = s.drain.links.get i := by
  simp only [State.link]

@[simp] theorem State.depth_eq (s : State) : s.depth = s.queue.records.length := by
  simp only [State.depth]

@[simp] theorem vector_get_set {α : Type} {n : Nat} (v : Vector α n) (i j : Fin n) (x : α) :
    (v.set i x).get j = if i = j then x else v.get j := by
  simp [Vector.get_eq_getElem, Vector.getElem_set, Fin.ext_iff]

@[simp] theorem vector_get_ofFn {α : Type} {n : Nat} (f : Fin n → α) (j : Fin n) :
    (Vector.ofFn f).get j = f j := by
  simp [Vector.get_eq_getElem]

@[simp] theorem vector_get_replicate {α : Type} {n : Nat} (x : α) (j : Fin n) :
    (Vector.replicate n x).get j = x := by
  simp [Vector.get_eq_getElem]

/-! ### Links left alone -/

@[simp] theorem State.driveWord_links (s : State) (k : Nat) :
    (s.driveWord k).drain.links = s.drain.links := by
  unfold State.driveWord
  (repeat' split) <;> simp

@[simp] theorem State.drivePad_links (s : State) (k : Nat) :
    (s.drivePad k).drain.links = s.drain.links := by
  unfold State.drivePad
  (repeat' split) <;> simp

@[simp] theorem State.endMark_links (s : State) :
    s.endMark.drain.links = s.drain.links := by
  unfold State.endMark
  (repeat' split) <;> simp

@[simp] theorem State.completeMark_links (s : State) :
    s.completeMark.drain.links = s.drain.links := by
  unfold State.completeMark
  (repeat' split) <;> simp

@[simp] theorem State.endChain_links (s : State) :
    s.endChain.drain.links = s.drain.links := by
  simp [State.endChain]

@[simp] theorem State.starve_links (s : State) :
    s.starve.drain.links = s.drain.links := by
  simp [State.starve]

/-! ### State and configuration of the regions -/

@[simp] theorem State.countRefusal_layout (s : State) (r : Fin 32) (reason : Word) (c : MasterCycle) (q : Fin 32) :
    ((s.countRefusal r reason c).regions.get q).state = (s.regions.get q).state ∧ ((s.countRefusal r reason c).regions.get q).cfg = (s.regions.get q).cfg := by
  unfold State.countRefusal
  (repeat' split) <;> (simp; try (split <;> simp_all))

@[simp] theorem State.recordChange_layout (s : State) (r : Fin 32) (a : Addr) (old new : Word) (st un : Bool) (q : Fin 32) :
    ((s.recordChange r a old new st un).regions.get q).state = (s.regions.get q).state ∧ ((s.recordChange r a old new st un).regions.get q).cfg = (s.regions.get q).cfg := by
  simp only [State.recordChange, State.produce_frame, State.modRegion_regions, vector_get_set, State.region_eq]
  split <;> simp_all

@[simp] theorem State.detect_layout (s : State) (r : Fin 32) (a : Addr) (old new : Word) (q : Fin 32) :
    ((s.detect r a old new).regions.get q).state = (s.regions.get q).state ∧ ((s.detect r a old new).regions.get q).cfg = (s.regions.get q).cfg := by
  unfold State.detect
  dsimp only
  (repeat' split) <;> (simp; try (split <;> simp_all))

@[simp] theorem State.expireEntry_layout (s : State) (e : SettleEntry) (q : Fin 32) :
    ((s.expireEntry e).regions.get q).state = (s.regions.get q).state ∧ ((s.expireEntry e).regions.get q).cfg = (s.regions.get q).cfg := by
  simp [State.expireEntry]

@[simp] theorem State.expireEntries_layout (entries : List SettleEntry) (s : State) (q : Fin 32) :
    ((entries.foldl State.expireEntry s).regions.get q).state = (s.regions.get q).state ∧
    ((entries.foldl State.expireEntry s).regions.get q).cfg = (s.regions.get q).cfg := by
  induction entries generalizing s with
  | nil => simp
  | cons e rest ih => simp [ih]

@[simp] theorem State.settleTick_layout (s : State) (q : Fin 32) :
    (s.settleTick.regions.get q).state = (s.regions.get q).state ∧ (s.settleTick.regions.get q).cfg = (s.regions.get q).cfg := by
  simp [State.settleTick]

@[simp] theorem State.verifyRead_layout (s : State) (r : Fin 32) (a : Addr) (k : Nat) (held d : Word) (q : Fin 32) :
    ((s.verifyRead r a k held d).regions.get q).state = (s.regions.get q).state ∧ ((s.verifyRead r a k held d).regions.get q).cfg = (s.regions.get q).cfg := by
  unfold State.verifyRead
  (repeat' split) <;> (simp; try (split <;> simp_all))

@[simp] theorem State.judgeAlert_layout (s : State) (r : Fin 32) (a : Addr) (q : Fin 32) :
    ((s.judgeAlert r a).regions.get q).state = (s.regions.get q).state ∧ ((s.judgeAlert r a).regions.get q).cfg = (s.regions.get q).cfg := by
  unfold State.judgeAlert
  dsimp only
  split
  · simp
    split <;> simp_all
  · simp

@[simp] theorem State.judgeTrip_layout (s : State) (r : Fin 32) (a : Option Addr) (q : Fin 32) :
    ((s.judgeTrip r a).regions.get q).state = (s.regions.get q).state ∧ ((s.judgeTrip r a).regions.get q).cfg = (s.regions.get q).cfg := by
  unfold State.judgeTrip
  dsimp only
  split
  · simp
    split <;> simp_all
  · simp

@[simp] theorem State.integrate_layout (s : State) (r : Fin 32) (a : Addr) (q : Fin 32) :
    ((s.integrate r a).regions.get q).state = (s.regions.get q).state ∧ ((s.integrate r a).regions.get q).cfg = (s.regions.get q).cfg := by
  unfold State.integrate
  (repeat' split) <;> (simp; try (split <;> simp_all))

@[simp] theorem State.decayAll_layout (s : State) (q : Fin 32) :
    (s.decayAll.regions.get q).state = (s.regions.get q).state ∧ (s.decayAll.regions.get q).cfg = (s.regions.get q).cfg := by
  simp [State.decayAll, Region.decay]

@[simp] theorem State.shadowWrite_layout (s : State) (r : Fin 32) (a : Addr) (en : BitVec 2) (d : Word) (q : Fin 32) :
    ((s.shadowWrite r a en d).regions.get q).state = (s.regions.get q).state ∧ ((s.shadowWrite r a en d).regions.get q).cfg = (s.regions.get q).cfg := by
  unfold State.shadowWrite
  (repeat' split) <;> (simp; try (split <;> simp_all))

@[simp] theorem State.shadowRead_layout (s : State) (r : Fin 32) (a : Addr) (d : Word) (q : Fin 32) :
    ((s.shadowRead r a d).regions.get q).state = (s.regions.get q).state ∧ ((s.shadowRead r a d).regions.get q).cfg = (s.regions.get q).cfg := by
  unfold State.shadowRead
  (repeat' split) <;> (simp; try (split <;> simp_all))

@[simp] theorem State.consumeWrite_layout (s : State) (a : Addr) (en : BitVec 2) (d : Word) (q : Fin 32) :
    ((s.consumeWrite a en d).regions.get q).state = (s.regions.get q).state ∧ ((s.consumeWrite a en d).regions.get q).cfg = (s.regions.get q).cfg := by
  unfold State.consumeWrite
  (repeat' split) <;> simp

@[simp] theorem State.consumeRead_layout (s : State) (a : Addr) (en : BitVec 2) (d : Word) (l : BitVec 2) (q : Fin 32) :
    ((s.consumeRead a en d l).regions.get q).state = (s.regions.get q).state ∧ ((s.consumeRead a en d l).regions.get q).cfg = (s.regions.get q).cfg := by
  unfold State.consumeRead
  (repeat' split) <;> simp

@[simp] theorem State.takePrime_layout (s : State) (p : PrimeRead) (d : Word) (q : Fin 32) :
    ((s.takePrime p d).regions.get q).state = (s.regions.get q).state ∧ ((s.takePrime p d).regions.get q).cfg = (s.regions.get q).cfg := by
  unfold State.takePrime
  split
  · (repeat' split) <;> simp
    split <;> simp_all
  · simp

@[simp] theorem State.tickCounters_layout (s : State) (q : Fin 32) :
    (s.tickCounters.regions.get q).state = (s.regions.get q).state ∧ (s.tickCounters.regions.get q).cfg = (s.regions.get q).cfg := by
  unfold State.tickCounters
  dsimp only
  (repeat' split) <;> simp

@[simp] theorem State.tick_layout (s : State) (q : Fin 32) :
    (s.tick.regions.get q).state = (s.regions.get q).state ∧ (s.tick.regions.get q).cfg = (s.regions.get q).cfg := by
  simp [State.tick]

/-! ### The high mark, the notice mask, the last-notified link and the completeness -/

@[simp] theorem State.clearNotices_keeps (s : State) (bits : BitVec 11) :
    (s.clearNotices bits).notices.mask = s.notices.mask ∧
    (s.clearNotices bits).notices.lastNotified = s.notices.lastNotified := by
  simp [State.clearNotices]

@[simp] theorem State.enterRecord_keeps (s : State) (x : Record) :
    (s.enterRecord x).queue.highMark = s.queue.highMark ∧
    (s.enterRecord x).notices.mask = s.notices.mask ∧
    (s.enterRecord x).notices.lastNotified = s.notices.lastNotified ∧
    (s.enterRecord x).notices.completeness = s.notices.completeness := by
  unfold State.enterRecord
  (repeat' split) <;> simp

@[simp] theorem State.loseRecord_keeps (s : State) (x : Record) :
    (s.loseRecord x).queue.highMark = s.queue.highMark ∧
    (s.loseRecord x).notices.mask = s.notices.mask ∧
    (s.loseRecord x).notices.lastNotified = s.notices.lastNotified ∧
    (s.loseRecord x).notices.completeness = s.notices.completeness := by
  simp [State.loseRecord]

@[simp] theorem State.createRecord_keeps (s : State) (b : Report) :
    (s.createRecord b).queue.highMark = s.queue.highMark ∧
    (s.createRecord b).notices.mask = s.notices.mask ∧
    (s.createRecord b).notices.lastNotified = s.notices.lastNotified ∧
    (s.createRecord b).notices.completeness = s.notices.completeness := by
  unfold State.createRecord
  (repeat' split) <;> simp

@[simp] theorem State.produce_keeps (s : State) (b : Report) :
    (s.produce b).queue.highMark = s.queue.highMark ∧
    (s.produce b).notices.mask = s.notices.mask ∧
    (s.produce b).notices.lastNotified = s.notices.lastNotified ∧
    (s.produce b).notices.completeness = s.notices.completeness := by
  unfold State.produce
  (repeat' split) <;> simp

@[simp] theorem State.placeLoss_keeps (s : State) :
    s.placeLoss.queue.highMark = s.queue.highMark ∧
    s.placeLoss.notices.mask = s.notices.mask ∧
    s.placeLoss.notices.lastNotified = s.notices.lastNotified ∧
    s.placeLoss.notices.completeness = s.notices.completeness := by
  unfold State.placeLoss
  (repeat' split) <;> simp

@[simp] theorem State.countRefusal_keeps (s : State) (r : Fin 32) (reason : Word) (c : MasterCycle) :
    (s.countRefusal r reason c).queue.highMark = s.queue.highMark ∧
    (s.countRefusal r reason c).notices.mask = s.notices.mask ∧
    (s.countRefusal r reason c).notices.lastNotified = s.notices.lastNotified ∧
    (s.countRefusal r reason c).notices.completeness = s.notices.completeness := by
  unfold State.countRefusal
  (repeat' split) <;> simp

@[simp] theorem State.countClash_keeps (s : State) (c : MasterCycle) :
    (s.countClash c).queue.highMark = s.queue.highMark ∧
    (s.countClash c).notices.mask = s.notices.mask ∧
    (s.countClash c).notices.lastNotified = s.notices.lastNotified ∧
    (s.countClash c).notices.completeness = s.notices.completeness := by
  unfold State.countClash
  (repeat' split) <;> simp

@[simp] theorem State.checkParity_keeps (s : State) (d : Direction) (a : Addr) (en : BitVec 2) (x : Word) (l : BitVec 2) :
    (s.checkParity d a en x l).queue.highMark = s.queue.highMark ∧
    (s.checkParity d a en x l).notices.mask = s.notices.mask ∧
    (s.checkParity d a en x l).notices.lastNotified = s.notices.lastNotified ∧
    (s.checkParity d a en x l).notices.completeness = s.notices.completeness := by
  unfold State.checkParity
  (repeat' split) <;> simp

@[simp] theorem State.recordChange_keeps (s : State) (r : Fin 32) (a : Addr) (old new : Word) (st un : Bool) :
    (s.recordChange r a old new st un).queue.highMark = s.queue.highMark ∧
    (s.recordChange r a old new st un).notices.mask = s.notices.mask ∧
    (s.recordChange r a old new st un).notices.lastNotified = s.notices.lastNotified ∧
    (s.recordChange r a old new st un).notices.completeness = s.notices.completeness := by
  simp [State.recordChange]

@[simp] theorem State.detect_keeps (s : State) (r : Fin 32) (a : Addr) (old new : Word) :
    (s.detect r a old new).queue.highMark = s.queue.highMark ∧
    (s.detect r a old new).notices.mask = s.notices.mask ∧
    (s.detect r a old new).notices.lastNotified = s.notices.lastNotified ∧
    (s.detect r a old new).notices.completeness = s.notices.completeness := by
  unfold State.detect
  dsimp only
  (repeat' split) <;> simp

@[simp] theorem State.expireEntry_keeps (s : State) (e : SettleEntry) :
    (s.expireEntry e).queue.highMark = s.queue.highMark ∧
    (s.expireEntry e).notices.mask = s.notices.mask ∧
    (s.expireEntry e).notices.lastNotified = s.notices.lastNotified ∧
    (s.expireEntry e).notices.completeness = s.notices.completeness := by
  simp [State.expireEntry]

@[simp] theorem State.expireEntries_keeps (entries : List SettleEntry) (s : State) :
    (entries.foldl State.expireEntry s).queue.highMark = s.queue.highMark ∧
    (entries.foldl State.expireEntry s).notices.mask = s.notices.mask ∧
    (entries.foldl State.expireEntry s).notices.lastNotified = s.notices.lastNotified ∧
    (entries.foldl State.expireEntry s).notices.completeness = s.notices.completeness := by
  induction entries generalizing s with
  | nil => simp
  | cons e rest ih => simp [ih]

@[simp] theorem State.settleTick_keeps (s : State) :
    s.settleTick.queue.highMark = s.queue.highMark ∧
    s.settleTick.notices.mask = s.notices.mask ∧
    s.settleTick.notices.lastNotified = s.notices.lastNotified ∧
    s.settleTick.notices.completeness = s.notices.completeness := by
  simp [State.settleTick]

@[simp] theorem State.verifyRead_keeps (s : State) (r : Fin 32) (a : Addr) (k : Nat) (held d : Word) :
    (s.verifyRead r a k held d).queue.highMark = s.queue.highMark ∧
    (s.verifyRead r a k held d).notices.mask = s.notices.mask ∧
    (s.verifyRead r a k held d).notices.lastNotified = s.notices.lastNotified ∧
    (s.verifyRead r a k held d).notices.completeness = s.notices.completeness := by
  unfold State.verifyRead
  (repeat' split) <;> simp

@[simp] theorem State.judgeAlert_keeps (s : State) (r : Fin 32) (a : Addr) :
    (s.judgeAlert r a).queue.highMark = s.queue.highMark ∧
    (s.judgeAlert r a).notices.mask = s.notices.mask ∧
    (s.judgeAlert r a).notices.lastNotified = s.notices.lastNotified ∧
    (s.judgeAlert r a).notices.completeness = s.notices.completeness := by
  unfold State.judgeAlert
  dsimp only
  (repeat' split) <;> simp

@[simp] theorem State.judgeTrip_keeps (s : State) (r : Fin 32) (a : Option Addr) :
    (s.judgeTrip r a).queue.highMark = s.queue.highMark ∧
    (s.judgeTrip r a).notices.mask = s.notices.mask ∧
    (s.judgeTrip r a).notices.lastNotified = s.notices.lastNotified ∧
    (s.judgeTrip r a).notices.completeness = s.notices.completeness := by
  unfold State.judgeTrip
  dsimp only
  (repeat' split) <;> simp

@[simp] theorem State.integrate_keeps (s : State) (r : Fin 32) (a : Addr) :
    (s.integrate r a).queue.highMark = s.queue.highMark ∧
    (s.integrate r a).notices.mask = s.notices.mask ∧
    (s.integrate r a).notices.lastNotified = s.notices.lastNotified ∧
    (s.integrate r a).notices.completeness = s.notices.completeness := by
  unfold State.integrate
  (repeat' split) <;> simp

@[simp] theorem State.shadowWrite_keeps (s : State) (r : Fin 32) (a : Addr) (en : BitVec 2) (d : Word) :
    (s.shadowWrite r a en d).queue.highMark = s.queue.highMark ∧
    (s.shadowWrite r a en d).notices.mask = s.notices.mask ∧
    (s.shadowWrite r a en d).notices.lastNotified = s.notices.lastNotified ∧
    (s.shadowWrite r a en d).notices.completeness = s.notices.completeness := by
  unfold State.shadowWrite
  (repeat' split) <;> simp

@[simp] theorem State.shadowRead_keeps (s : State) (r : Fin 32) (a : Addr) (d : Word) :
    (s.shadowRead r a d).queue.highMark = s.queue.highMark ∧
    (s.shadowRead r a d).notices.mask = s.notices.mask ∧
    (s.shadowRead r a d).notices.lastNotified = s.notices.lastNotified ∧
    (s.shadowRead r a d).notices.completeness = s.notices.completeness := by
  unfold State.shadowRead
  (repeat' split) <;> simp

@[simp] theorem State.consumeWrite_keeps (s : State) (a : Addr) (en : BitVec 2) (d : Word) :
    (s.consumeWrite a en d).queue.highMark = s.queue.highMark ∧
    (s.consumeWrite a en d).notices.mask = s.notices.mask ∧
    (s.consumeWrite a en d).notices.lastNotified = s.notices.lastNotified ∧
    (s.consumeWrite a en d).notices.completeness = s.notices.completeness := by
  unfold State.consumeWrite
  (repeat' split) <;> simp

@[simp] theorem State.consumeRead_keeps (s : State) (a : Addr) (en : BitVec 2) (d : Word) (l : BitVec 2) :
    (s.consumeRead a en d l).queue.highMark = s.queue.highMark ∧
    (s.consumeRead a en d l).notices.mask = s.notices.mask ∧
    (s.consumeRead a en d l).notices.lastNotified = s.notices.lastNotified ∧
    (s.consumeRead a en d l).notices.completeness = s.notices.completeness := by
  unfold State.consumeRead
  (repeat' split) <;> simp

@[simp] theorem State.completePriming_keeps (s : State) (r : Fin 32) :
    (s.completePriming r).queue.highMark = s.queue.highMark ∧
    (s.completePriming r).notices.mask = s.notices.mask ∧
    (s.completePriming r).notices.lastNotified = s.notices.lastNotified ∧
    (s.completePriming r).notices.completeness = s.notices.completeness := by
  simp [State.completePriming]

@[simp] theorem primeSteps_keeps (n : Nat) (s : State) :
    (primeSteps n s).queue.highMark = s.queue.highMark ∧
    (primeSteps n s).notices.mask = s.notices.mask ∧
    (primeSteps n s).notices.lastNotified = s.notices.lastNotified ∧
    (primeSteps n s).notices.completeness = s.notices.completeness := by
  induction n generalizing s with
  | zero => simp [primeSteps]
  | succ n ih =>
    unfold primeSteps
    (repeat' split) <;> simp [ih]

@[simp] theorem State.primeStep_keeps (s : State) :
    s.primeStep.queue.highMark = s.queue.highMark ∧
    s.primeStep.notices.mask = s.notices.mask ∧
    s.primeStep.notices.lastNotified = s.notices.lastNotified ∧
    s.primeStep.notices.completeness = s.notices.completeness := by
  unfold State.primeStep
  (repeat' split) <;> simp

@[simp] theorem State.primeLeft_keeps (s : State) :
    s.primeLeft.queue.highMark = s.queue.highMark ∧
    s.primeLeft.notices.mask = s.notices.mask ∧
    s.primeLeft.notices.lastNotified = s.notices.lastNotified ∧
    s.primeLeft.notices.completeness = s.notices.completeness := by
  unfold State.primeLeft
  (repeat' split) <;> simp

@[simp] theorem State.endFreeze_keeps (s : State) (c : Completeness) :
    (s.endFreeze c).notices.mask = s.notices.mask ∧
    (s.endFreeze c).notices.lastNotified = s.notices.lastNotified := by
  simp [State.endFreeze]

@[simp] theorem State.endMark_keeps (s : State) :
    s.endMark.notices.mask = s.notices.mask ∧
    s.endMark.notices.lastNotified = s.notices.lastNotified := by
  unfold State.endMark
  (repeat' split) <;> simp

@[simp] theorem State.completeMark_keeps (s : State) :
    s.completeMark.notices.mask = s.notices.mask ∧
    s.completeMark.notices.lastNotified = s.notices.lastNotified := by
  unfold State.completeMark
  (repeat' split) <;> simp

@[simp] theorem State.closeLink_keeps (s : State) (i : Fin 8) (c : CloseReason) :
    (s.closeLink i c).notices.mask = s.notices.mask := by
  unfold State.closeLink
  (repeat' split) <;> simp

@[simp] theorem State.endChain_keeps (s : State) :
    s.endChain.notices.mask = s.notices.mask ∧
    s.endChain.notices.lastNotified = s.notices.lastNotified ∧
    s.endChain.notices.completeness = s.notices.completeness := by
  simp [State.endChain]

@[simp] theorem State.starve_keeps (s : State) :
    s.starve.notices.mask = s.notices.mask ∧
    s.starve.notices.lastNotified = s.notices.lastNotified ∧
    s.starve.notices.completeness = s.notices.completeness := by
  simp [State.starve]

@[simp] theorem State.advance_keeps (s : State) (i : Fin 8) :
    (s.advance i).notices.mask = s.notices.mask := by
  unfold State.advance
  dsimp only
  (repeat' split) <;> simp

@[simp] theorem State.closeFull_keeps (s : State) (i : Fin 8) :
    (s.closeFull i).notices.mask = s.notices.mask := by
  unfold State.closeFull
  (repeat' split) <;> simp

@[simp] theorem State.completeFlush_keeps (s : State) :
    s.completeFlush.notices.mask = s.notices.mask := by
  unfold State.completeFlush
  (repeat' split) <;> simp

@[simp] theorem State.settleAbort_keeps (s : State) (i : Fin 8) :
    (s.settleAbort i).notices.mask = s.notices.mask := by
  unfold State.settleAbort
  (repeat' split) <;> simp

@[simp] theorem State.carryOutAbort_keeps (s : State) :
    s.carryOutAbort.notices.mask = s.notices.mask := by
  unfold State.carryOutAbort
  (repeat' split) <;> simp

@[simp] theorem State.recordWritten_keeps (s : State) (i : Fin 8) :
    (s.recordWritten i).queue.highMark = s.queue.highMark ∧
    (s.recordWritten i).notices.mask = s.notices.mask ∧
    (s.recordWritten i).notices.lastNotified = s.notices.lastNotified ∧
    (s.recordWritten i).notices.completeness = s.notices.completeness := by
  simp [State.recordWritten]

@[simp] theorem State.judgeClosure_keeps (s : State) (i : Fin 8) :
    (s.judgeClosure i).notices.mask = s.notices.mask := by
  unfold State.judgeClosure
  (repeat' split) <;> simp

@[simp] theorem State.padsWritten_keeps (s : State) (i : Fin 8) :
    (s.padsWritten i).notices.mask = s.notices.mask := by
  unfold State.padsWritten
  (repeat' split) <;> simp

@[simp] theorem State.tick_keeps (s : State) :
    s.tick.queue.highMark = s.queue.highMark ∧
    s.tick.notices.mask = s.notices.mask ∧
    s.tick.notices.lastNotified = s.notices.lastNotified ∧
    s.tick.notices.completeness = s.notices.completeness := by
  simp [State.tick]

/-! ### The reset cause and the levels seen on the lines -/

@[simp] theorem State.endFreeze_monitor (s : State) (c : Completeness) :
    (s.endFreeze c).monitor.cause = s.monitor.cause ∧ (s.endFreeze c).monitor.snapHigh = s.monitor.snapHigh ∧
    (s.endFreeze c).monitor.rstHigh = s.monitor.rstHigh := by
  simp [State.endFreeze]

@[simp] theorem State.endMark_monitor (s : State) :
    s.endMark.monitor.cause = s.monitor.cause ∧ s.endMark.monitor.snapHigh = s.monitor.snapHigh ∧
    s.endMark.monitor.rstHigh = s.monitor.rstHigh := by
  unfold State.endMark
  (repeat' split) <;> simp

@[simp] theorem State.completeMark_monitor (s : State) :
    s.completeMark.monitor.cause = s.monitor.cause ∧ s.completeMark.monitor.snapHigh = s.monitor.snapHigh ∧
    s.completeMark.monitor.rstHigh = s.monitor.rstHigh := by
  unfold State.completeMark
  (repeat' split) <;> simp

@[simp] theorem State.advance_monitor (s : State) (i : Fin 8) :
    (s.advance i).monitor.cause = s.monitor.cause ∧ (s.advance i).monitor.snapHigh = s.monitor.snapHigh ∧
    (s.advance i).monitor.rstHigh = s.monitor.rstHigh := by
  unfold State.advance
  dsimp only
  (repeat' split) <;> simp

@[simp] theorem State.closeFull_monitor (s : State) (i : Fin 8) :
    (s.closeFull i).monitor.cause = s.monitor.cause ∧ (s.closeFull i).monitor.snapHigh = s.monitor.snapHigh ∧
    (s.closeFull i).monitor.rstHigh = s.monitor.rstHigh := by
  unfold State.closeFull
  (repeat' split) <;> simp

@[simp] theorem State.completeFlush_monitor (s : State) :
    s.completeFlush.monitor.cause = s.monitor.cause ∧ s.completeFlush.monitor.snapHigh = s.monitor.snapHigh ∧
    s.completeFlush.monitor.rstHigh = s.monitor.rstHigh := by
  unfold State.completeFlush
  (repeat' split) <;> simp

@[simp] theorem State.judgeClosure_monitor (s : State) (i : Fin 8) :
    (s.judgeClosure i).monitor.cause = s.monitor.cause ∧ (s.judgeClosure i).monitor.snapHigh = s.monitor.snapHigh ∧
    (s.judgeClosure i).monitor.rstHigh = s.monitor.rstHigh := by
  unfold State.judgeClosure
  (repeat' split) <;> simp

@[simp] theorem State.padsWritten_monitor (s : State) (i : Fin 8) :
    (s.padsWritten i).monitor.cause = s.monitor.cause ∧ (s.padsWritten i).monitor.snapHigh = s.monitor.snapHigh ∧
    (s.padsWritten i).monitor.rstHigh = s.monitor.rstHigh := by
  unfold State.padsWritten
  (repeat' split) <;> simp

/-! ### The arbiter and the port -/

@[simp] theorem State.arbitrate_keeps (s : State) :
    s.arbitrate.arb.owner = s.arb.owner ∧ s.arbitrate.arb.burstCount = s.arb.burstCount ∧
    s.arbitrate.arb.lastBackground = s.arb.lastBackground := by
  unfold State.arbitrate
  (repeat' split) <;> simp

@[simp] theorem State.releasePort_keeps (s : State) :
    s.releasePort.path = { s.path with memCycle := none } ∧ s.releasePort.arb.owner = none ∧
    s.releasePort.arb.burstCount = s.arb.burstCount ∧
    s.releasePort.arb.lastBackground = s.arb.lastBackground := by
  simp [State.releasePort]

@[simp] theorem State.endMasterCycle_keeps (s : State) :
    s.endMasterCycle.path =
      { s.path with cycle := none, mwait := false, mberr := false, readData := none } ∧
    s.endMasterCycle.arb.owner = s.arb.owner ∧ s.endMasterCycle.arb.burstCount = s.arb.burstCount ∧
    s.endMasterCycle.arb.lastBackground = s.arb.lastBackground := by
  simp [State.endMasterCycle]

end Sys2Proof.Machine
end

