-- ==== Sys2Proof/Laws/Frames.lean ====
section
/-! SUPPORT. What the parts of a frame do: the lemmas about openFrame, exchangeByte, the edges of CFG_CLK, closeFrame
and runFrame that the meanings of the frame commands are read with. -/

namespace Sys2Proof.Machine

/-! ### The rise of CFG_CS# -/

/-- CFG_CS# rises on the frame of this command: its effect, the frame gone, its result held. -/
theorem closeFrame_of_frame {spec : FrameSpec} {s : State} {f : Frame} {code : Byte} (h : s.port.frame = some f)
    (hf : f.command = some code) (hc : spec.command = some code) :
    closeFrame spec s =
      { (spec.effect f s).1 with port := (spec.effect f s).1.port.ended (spec.effect f s).2 } := by
  simp [closeFrame, h, hf, hc]

/-- CFG_CS# rises before a command byte has been received. -/
theorem closeFrame_of_incomplete {spec : FrameSpec} {s : State} {f : Frame} (h : s.port.frame = some f)
    (hf : f.command = none) : closeFrame spec s = s.frameEnded s.port.lastResult := by
  simp [closeFrame, h, hf, State.frameEnded]

/-- CFG_CS# rises with no frame in progress. -/
theorem closeFrame_of_none {spec : FrameSpec} {s : State} (h : s.port.frame = none) :
    closeFrame spec s = { s with port := { s.port with selected := false } } := by
  simp [closeFrame, h]

/-- A rise named by the row of another command: not taken. -/
theorem closeFrame_of_other {spec : FrameSpec} {s : State} {f : Frame} {code : Byte} (h : s.port.frame = some f)
    (hf : f.command = some code) (hc : spec.command ≠ some code) : closeFrame spec s = s := by
  simp [closeFrame, h, hf, hc]

/-- A frame at the rise: the effect of its specification. -/
theorem runFrame_finish {spec : FrameSpec} {s : State} {f : Frame} {code : Byte} (h : s.port.frame = some f)
    (hf : f.command = some code) (hc : spec.command = some code) (given : List Byte) :
    runFrame spec given .finish s =
      { (spec.effect f s).1 with port := (spec.effect f s).1.port.ended (spec.effect f s).2 } :=
  closeFrame_of_frame h hf hc

/-- The rise of a frame that returns no data, with the operands received. -/
theorem runFrame_plain_finish {code : Byte} {effect : List Byte → State → State × ResultCode} {ops : List Byte}
    {s : State} (h : s.receiving code ops) (given : List Byte) :
    runFrame (plainFrame code effect) given .finish s =
      { (effect ops s).1 with port := (effect ops s).1.port.ended (effect ops s).2 } := by
  obtain ⟨f, hf, hc, ho⟩ := h
  rw [runFrame_finish hf hc rfl]
  simp [plainFrame, ho]

/-! ### Bytes -/

/-- Between two bytes of a frame of this command, a byte is exchanged. -/
theorem exchangeByte_eq {spec : FrameSpec} {s : State} (ops : List Byte) (h : s.betweenBytes)
    (hf : spec.fits s.port = true) (hc : spec.completes s.port = true) :
    exchangeByte spec ops s = beginByte spec (endByte spec ops s) := by
  obtain ⟨h1, h2, h3⟩ := h
  simp [exchangeByte, h1, h2, h3, hf, hc]

/-- The next byte shifted out leaves the command byte, the bytes received and what they fixed. -/
theorem nextByte_keeps (spec : FrameSpec) (s : State) (f : Frame) :
    (nextByte spec s f).2.command = f.command ∧ (nextByte spec s f).2.ops = f.ops ∧
      (nextByte spec s f).2.latch = f.latch := by
  unfold nextByte
  (repeat' split) <;> simp

/-- The parts of a frame before its rise touch nothing but the serial lines and the frame. -/
def SerialOnly (s t : State) : Prop :=
  t = { s with port := { s.port with
    selected := t.port.selected
    frame := t.port.frame
    clock := t.port.clock
    bits := t.port.bits
    out := t.port.out
    sent := t.port.sent } }

theorem SerialOnly.refl (s : State) : SerialOnly s s := rfl

theorem SerialOnly.trans {s t u : State} (h : SerialOnly s t) (h' : SerialOnly t u) : SerialOnly s u := by
  unfold SerialOnly at *
  rw [h', h]

theorem openFrame_serialOnly (s : State) : SerialOnly s (openFrame s) := rfl

theorem endByte_serialOnly (spec : FrameSpec) (ops : List Byte) (s : State) :
    SerialOnly s (endByte spec ops s) := rfl

theorem beginByte_serialOnly (spec : FrameSpec) (s : State) : SerialOnly s (beginByte spec s) := by
  unfold beginByte
  split <;> rfl

theorem riseClock_serialOnly (spec : FrameSpec) (ops : List Byte) (s : State) :
    SerialOnly s (riseClock spec ops s) := by
  unfold riseClock
  (repeat' split) <;> rfl

theorem fallClock_serialOnly (spec : FrameSpec) (s : State) : SerialOnly s (fallClock spec s) := by
  unfold fallClock
  (repeat' split)
  · rfl
  · unfold beginByte
    split <;> rfl
  · rfl

theorem exchangeByte_serialOnly (spec : FrameSpec) (ops : List Byte) (s : State) :
    SerialOnly s (exchangeByte spec ops s) := by
  unfold exchangeByte
  split
  · exact (endByte_serialOnly spec ops s).trans (beginByte_serialOnly spec _)
  · rfl

theorem exchangeBytes_serialOnly (spec : FrameSpec) (ops : List Byte) (n : Nat) (s : State) :
    SerialOnly s (exchangeBytes spec ops n s) := by
  induction n generalizing s with
  | zero => rfl
  | succ n ih => exact (exchangeByte_serialOnly spec ops s).trans (ih _)

/-- One byte more. -/
theorem exchangeBytes_succ (spec : FrameSpec) (ops : List Byte) (n : Nat) (s : State) :
    exchangeBytes spec ops (n + 1) s = exchangeByte spec ops (exchangeBytes spec ops n s) := by
  induction n generalizing s with
  | zero => rfl
  | succ n ih => rw [exchangeBytes, ih, exchangeBytes]

/-- The serial lines and the frame between two bytes of a frame begun in `s`, `n` of whose bytes have gone out. -/
def State.amid (s : State) (data : List Byte) (n : Nat) (f : Frame) : State :=
  { s with port := { s.port with
      selected := true
      frame := some f
      clock := false
      bits := 0
      out := s.byteOut data n
      sent := (List.range n).map (s.byteOut data) } }

theorem amid_serialOnly (s : State) (data : List Byte) (n : Nat) (f : Frame) : SerialOnly s (s.amid data n f) := rfl

/-- The frame as CFG_CS# falls. -/
def Frame.fresh : Frame := { command := none, ops := [], latch := .nothing, units := 0, data := [] }

theorem openFrame_eq (s : State) (data : List Byte) : openFrame s = s.amid data 0 Frame.fresh := rfl

theorem byteOut_one (s : State) (data : List Byte) : s.byteOut data 1 = s.port.lastResult.code := rfl

theorem byteOut_data (s : State) (data : List Byte) (n : Nat) :
    s.byteOut data (n + 2) = (data.drop n).headD 0 := by
  simp [State.byteOut, List.headD_eq_head?_getD, List.head?_drop]

theorem receiveByte_command {spec : FrameSpec} {code : Byte} (hc : spec.command = some code) (ops : List Byte)
    (u : State) {f : Frame} (hf : f.command = none ∨ f.command = some code) :
    (receiveByte spec ops u f).command = some code := by
  unfold receiveByte
  rcases hf with h | h <;> simp [h, hc]

theorem receiveByte_ops_ne_nil {spec : FrameSpec} {code : Byte} (ops : List Byte) (u : State) {f : Frame}
    (hf : f.command = some code) : (receiveByte spec ops u f).ops ≠ [] := by
  simp [receiveByte, hf]

/-- One byte more of a frame of this command. -/
theorem exchangeByte_amid {spec : FrameSpec} {code : Byte} (hc : spec.command = some code) (ops data : List Byte)
    (s : State) (n : Nat) {f : Frame} (hf : f.command = none ∨ f.command = some code) :
    let g := receiveByte spec ops (s.amid data n f) f
    let u := endByte spec ops (s.amid data n f)
    exchangeByte spec ops (s.amid data n f) = { s with port := { s.port with
      selected := true
      frame := some (nextByte spec u g).2
      clock := false
      bits := 0
      out := (nextByte spec u g).1
      sent := (List.range (n + 1)).map (s.byteOut data) } } := by
  intro g u
  have fits : spec.fits (s.amid data n f).port = true := by
    rcases hf with h | h <;> simp [FrameSpec.fits, State.amid, h, hc]
  have completes : spec.completes (s.amid data n f).port = true := by
    simp [FrameSpec.completes, State.amid, hc]
  rw [exchangeByte_eq ops ⟨rfl, rfl, rfl⟩ fits completes]
  simp [beginByte, endByte, State.amid, List.range_succ, g, u]

/-- The first byte of a frame: the command byte goes in, the status byte out, and the last result code follows. -/
theorem exchangeBytes_one {spec : FrameSpec} {code : Byte} (hc : spec.command = some code) (ops data : List Byte)
    (s : State) :
    exchangeBytes spec ops 1 (openFrame s) = s.amid data 1 (receiveByte spec ops (openFrame s) Frame.fresh) := by
  have h := exchangeByte_amid (f := Frame.fresh) hc ops data s 0 (.inl rfl)
  simp only [exchangeBytes, openFrame_eq s data]
  rw [h]
  simp [State.amid, nextByte, receiveByte, Frame.fresh, endByte, byteOut_one]

/-- What a whole frame has sent after `n + 2` bytes: `Sends f rest` says that the frame still has `rest` to send, with
whatever else of the frame the effect rests on. -/
theorem exchangeBytes_data {spec : FrameSpec} {code : Byte} (hc : spec.command = some code) (ops data : List Byte)
    (s : State) (Sends : Frame → List Byte → Prop)
    (first : ∀ u v, SerialOnly s u → SerialOnly s v →
      Sends (receiveByte spec ops v (receiveByte spec ops u Frame.fresh)) data)
    (receive : ∀ f rest u, SerialOnly s u → f.command = some code → f.ops ≠ [] → Sends f rest →
      Sends (receiveByte spec ops u f) rest)
    (next : ∀ f rest u, SerialOnly s u → f.command = some code → f.ops ≠ [] → Sends f rest →
      (nextByte spec u f).1 = rest.headD 0 ∧ Sends (nextByte spec u f).2 rest.tail) (n : Nat) :
    ∃ f, exchangeBytes spec ops (n + 2) (openFrame s) = s.amid data (n + 2) f ∧ f.command = some code ∧
      f.ops ≠ [] ∧ Sends f (data.drop (n + 1)) := by
  have more : ∀ m f g u, g.command = some code → g.ops ≠ [] → Sends g (data.drop m) → SerialOnly s u →
      exchangeByte spec ops (s.amid data (m + 1) f) = { s with port := { s.port with
        selected := true
        frame := some (nextByte spec u g).2
        clock := false
        bits := 0
        out := (nextByte spec u g).1
        sent := (List.range (m + 2)).map (s.byteOut data) } } →
      ∃ f', exchangeByte spec ops (s.amid data (m + 1) f) = s.amid data (m + 2) f' ∧ f'.command = some code ∧
        f'.ops ≠ [] ∧ Sends f' (data.drop (m + 1)) := by
    intro m f g u gc go hs hu he
    obtain ⟨out, sends⟩ := next g _ u hu gc go hs
    obtain ⟨kc, ko, -⟩ := nextByte_keeps spec u g
    refine ⟨(nextByte spec u g).2, ?_, kc.trans gc, by rw [ko]; exact go, ?_⟩
    · rw [he, State.amid, byteOut_data, out]
    · rwa [List.tail_drop] at sends
  induction n with
  | zero =>
    rw [exchangeBytes_succ, exchangeBytes_one hc ops data]
    have fc := receiveByte_command hc ops (openFrame s) (f := Frame.fresh) (.inl rfl)
    exact more 0 _ _ _ (receiveByte_command hc ops _ (.inr fc)) (receiveByte_ops_ne_nil ops _ fc)
      (first _ _ (openFrame_serialOnly s) (amid_serialOnly s data 1 _))
      ((amid_serialOnly s data 1 _).trans (endByte_serialOnly spec ops _)) (exchangeByte_amid hc ops data s 1 (.inr fc))
  | succ n ih =>
    obtain ⟨f, hf, fc, fo, fs⟩ := ih
    rw [exchangeBytes_succ, hf]
    exact more (n + 1) f _ _ (receiveByte_command hc ops _ (.inr fc)) (receiveByte_ops_ne_nil ops _ fc)
      (receive f _ _ (amid_serialOnly s data (n + 2) f) fc fo fs)
      ((amid_serialOnly s data (n + 2) f).trans (endByte_serialOnly spec ops _)) (exchangeByte_amid hc ops data s (n + 2) (.inr fc))

/-- What every part of a frame keeps: a property that no change of the serial lines, the frame and the last result code
breaks, and that the effect keeps, holds after it. -/
theorem runFrame_keeps (spec : FrameSpec) (P : State → Prop)
    (serial : ∀ s t, SerialOnly s t → P s → P t)
    (ended : ∀ (u : State) (result : ResultCode), P u → P (u.frameEnded result))
    (effect : ∀ (f : Frame) (u : State), P u → P (spec.effect f u).1)
    (ops : List Byte) (act : FrameAct) {s : State} (h : P s) : P (runFrame spec ops act s) := by
  have closed : ∀ u, P u → P (closeFrame spec u) := by
    intro u hu
    unfold closeFrame
    split
    · exact serial u _ rfl hu
    · split
      · exact ended u _ hu
      · split
        · exact ended _ _ (effect _ u hu)
        · exact hu
  cases act with
  | whole extra =>
    simp only [runFrame]
    split
    · exact h
    · exact closed _ (serial _ _ ((openFrame_serialOnly s).trans (exchangeBytes_serialOnly spec ops _ _)) h)
  | start =>
    simp only [runFrame]
    split
    · exact h
    · exact serial _ _ (openFrame_serialOnly s) h
  | clockRises => exact serial _ _ (riseClock_serialOnly spec ops s) h
  | clockFalls => exact serial _ _ (fallClock_serialOnly spec s) h
  | byte => exact serial _ _ (exchangeByte_serialOnly spec ops s) h
  | finish => exact closed s h

end Sys2Proof.Machine
end

