-- ==== Sys2Proof/Laws/PerInstr.lean ====
section
/-! SUPPORT. One lemma per command: the bytes the host sends for a well-formed frame command decode to that command
(Table 10-3); the commands that are no frames have no bytes. -/

namespace Sys2Proof.Laws.FrameRoundTrip

/-- The bytes the host sends for a well-formed frame command decode to that command. A command that is no
frame has no bytes, and the statement asks nothing of it. -/
def Statement (i : Instr) : Prop :=
  i.wellFormed = true →
    match encodeFrame i with
    | some (bytes, act) => decodeFrame bytes act = i
    | none => True

theorem readStatus (act : FrameAct) : Statement (.readStatus act) := fun _ => rfl

theorem readNotice (act : FrameAct) : Statement (.readNotice act) := fun _ => rfl

theorem clearNotice (ops : List Byte) (act : FrameAct) : Statement (.clearNotice ops act) := fun _ => rfl

theorem setNoticeMask (ops : List Byte) (act : FrameAct) : Statement (.setNoticeMask ops act) := fun _ => rfl

theorem stageRegion (ops : List Byte) (act : FrameAct) : Statement (.stageRegion ops act) := fun _ => rfl

theorem commitRegion (ops : List Byte) (act : FrameAct) : Statement (.commitRegion ops act) := fun _ => rfl

theorem readRegion (ops : List Byte) (act : FrameAct) : Statement (.readRegion ops act) := fun _ => rfl

theorem enableRegion (ops : List Byte) (act : FrameAct) : Statement (.enableRegion ops act) := fun _ => rfl

theorem disableRegion (ops : List Byte) (act : FrameAct) : Statement (.disableRegion ops act) := fun _ => rfl

theorem releaseRegion (ops : List Byte) (act : FrameAct) : Statement (.releaseRegion ops act) := fun _ => rfl

theorem setSense (ops : List Byte) (act : FrameAct) : Statement (.setSense ops act) := fun _ => rfl

theorem clearTrip (ops : List Byte) (act : FrameAct) : Statement (.clearTrip ops act) := fun _ => rfl

theorem clearCounts (ops : List Byte) (act : FrameAct) : Statement (.clearCounts ops act) := fun _ => rfl

theorem setThresholds (ops : List Byte) (act : FrameAct) : Statement (.setThresholds ops act) := fun _ => rfl

theorem loadLink (ops : List Byte) (act : FrameAct) : Statement (.loadLink ops act) := fun _ => rfl

theorem readLink (ops : List Byte) (act : FrameAct) : Statement (.readLink ops act) := fun _ => rfl

theorem startDrain (ops : List Byte) (act : FrameAct) : Statement (.startDrain ops act) := by
  intro hw
  have hne : ops.head? ≠ some 0xFF := by simpa [Instr.wellFormed] using hw
  exact (if_neg hne : (if ops.head? = some 0xFF then Instr.startDrainContinue act else .startDrain ops act) = _)

theorem startDrainContinue (act : FrameAct) : Statement (.startDrainContinue act) := fun _ => rfl

theorem stopDrain (act : FrameAct) : Statement (.stopDrain act) := fun _ => rfl

theorem flush (act : FrameAct) : Statement (.flush act) := fun _ => rfl

theorem abortDrain (act : FrameAct) : Statement (.abortDrain act) := fun _ => rfl

theorem popEvent (act : FrameAct) : Statement (.popEvent act) := fun _ => rfl

theorem discardQueue (act : FrameAct) : Statement (.discardQueue act) := fun _ => rfl

theorem unloadLink (ops : List Byte) (act : FrameAct) : Statement (.unloadLink ops act) := fun _ => rfl

theorem arm (act : FrameAct) : Statement (.arm act) := fun _ => rfl

theorem disarm (act : FrameAct) : Statement (.disarm act) := fun _ => rfl

theorem resume (act : FrameAct) : Statement (.resume act) := fun _ => rfl

theorem setTimebase (ops : List Byte) (act : FrameAct) : Statement (.setTimebase ops act) := fun _ => rfl

theorem setOptions (ops : List Byte) (act : FrameAct) : Statement (.setOptions ops act) := fun _ => rfl

theorem setShadowPointer (ops : List Byte) (act : FrameAct) : Statement (.setShadowPointer ops act) := fun _ => rfl

theorem readShadow (ops : List Byte) (act : FrameAct) : Statement (.readShadow ops act) := fun _ => rfl

theorem reset (act : FrameAct) : Statement (.reset act) := fun _ => rfl

theorem badCommand (command : Option Byte) (act : FrameAct) : Statement (.badCommand command act) := by
  intro hw
  cases command with
  | none => rfl
  | some code =>
    have hk : code ∉ knownCodes := by simpa [Instr.wellFormed] using hw
    simp only [knownCodes, List.mem_cons, List.not_mem_nil, or_false, not_or] at hk
    show decodeFrame [code] act = _
    simp only [decodeFrame, hk, if_false]

theorem masterCycleArrives (moe mwe : Bool) (addr : Addr) (enables : BitVec 2) (data : Word) (parity : BitVec 2) : Statement (.masterCycleArrives moe mwe addr enables data parity) := fun _ => trivial

theorem masterCycleWithdrawn : Statement (.masterCycleWithdrawn) := fun _ => trivial

theorem masterCycleEnds : Statement (.masterCycleEnds) := fun _ => trivial

theorem writeGrant : Statement (.writeGrant) := fun _ => trivial

theorem readGrant : Statement (.readGrant) := fun _ => trivial

theorem primeGrant : Statement (.primeGrant) := fun _ => trivial

theorem drainGrant : Statement (.drainGrant) := fun _ => trivial

theorem writeCompletion : Statement (.writeCompletion) := fun _ => trivial

theorem readCompletion (data : Word) (parity : BitVec 2) : Statement (.readCompletion data parity) := fun _ => trivial

theorem primeReadCompletion (data : Word) (parity : BitVec 2) : Statement (.primeReadCompletion data parity) := fun _ => trivial

theorem drainWriteCompletion : Statement (.drainWriteCompletion) := fun _ => trivial

theorem recordWriteCompletion : Statement (.recordWriteCompletion) := fun _ => trivial

theorem padWriteCompletion : Statement (.padWriteCompletion) := fun _ => trivial

theorem burstEnd : Statement (.burstEnd) := fun _ => trivial

theorem snapEdge : Statement (.snapEdge) := fun _ => trivial

theorem snapLineFalls : Statement (.snapLineFalls) := fun _ => trivial

theorem powerOnReset (snapHigh rstHigh : Bool) : Statement (.powerOnReset snapHigh rstHigh) := fun _ => trivial

theorem fullReset : Statement (.fullReset) := fun _ => trivial

theorem partialReset : Statement (.partialReset) := fun _ => trivial

theorem baseTick : Statement (.baseTick) := fun _ => trivial

theorem decayTick : Statement (.decayTick) := fun _ => trivial

theorem settleExpiry : Statement (.settleExpiry) := fun _ => trivial

theorem flushComplete : Statement (.flushComplete) := fun _ => trivial

theorem abortCarriedOut : Statement (.abortCarriedOut) := fun _ => trivial

theorem lossPlacement : Statement (.lossPlacement) := fun _ => trivial

theorem tclkPeriod : Statement (.tclkPeriod) := fun _ => trivial

theorem rstLineRises : Statement (.rstLineRises) := fun _ => trivial

end Sys2Proof.Laws.FrameRoundTrip
end

