-- ==== Sys2Proof/Laws/Records.lean ====
section
/-! SUPPORT. Records and the Event Queue: what creating and placing a record gives, once for each case. -/

namespace Sys2Proof.Machine

/-- The words of a record exclusive-or to 0x0000. -/
@[simp] theorem Record.make_intact (b : Report) (stamp seq : Word) :
    xorWords (Record.make b stamp seq).words = 0 := by
  simp [Record.make, Record.words, Report.words, xorWords]

/-- A record created with room in the queue enters at its tail. -/
theorem State.createRecord_queue_room {s : State} (h : s.queue.records.length < 64) (b : Report) :
    (s.createRecord b).queue = { s.queue with
      records := s.queue.records ++ [Record.make b s.time.stamp s.queue.nextSeq]
      nextSeq := s.queue.nextSeq + 1 } := by
  by_cases hh : s.queue.records.length + 1 = s.queue.highMark <;>
    simp [State.createRecord, State.depth, Config.queueCapacity, h, State.enterRecord, State.nextRecord, hh]

/-- A record created with the queue full is lost and accounted. -/
theorem State.createRecord_queue_full {s : State} (h : 64 ≤ s.queue.records.length) (b : Report) :
    (s.createRecord b).queue = { s.queue with
      nextSeq := s.queue.nextSeq + 1
      lossCount := satInc s.queue.lossCount
      firstLost := if s.queue.lossCount = 0 then s.queue.nextSeq else s.queue.firstLost } := by
  simp only [State.createRecord, State.depth, Config.queueCapacity, Nat.not_lt.2 h, if_false]
  rfl

/-- What creating a record does to the queue rests on the queue and the time stamp alone. -/
theorem State.createRecord_queue_congr {s u : State} (hq : s.queue = u.queue) (ht : s.time = u.time) (b : Report) :
    (s.createRecord b).queue = (u.createRecord b).queue := by
  by_cases h : s.queue.records.length < 64
  · rw [createRecord_queue_room h, createRecord_queue_room (hq ▸ h), hq, ht]
  · rw [createRecord_queue_full (Nat.le_of_not_lt h), createRecord_queue_full (hq ▸ Nat.le_of_not_lt h), hq]

/-- What creating a record does to the notices rests on the queue and the notices alone. -/
theorem State.createRecord_notices_congr {s u : State} (hq : s.queue = u.queue) (hn : s.notices = u.notices)
    (b : Report) : (s.createRecord b).notices = (u.createRecord b).notices := by
  unfold State.createRecord State.enterRecord State.loseRecord
  simp only [State.depth, hq]
  (repeat' split) <;> simp_all

/-- Creating a record changes the queue and the notices alone. -/
theorem State.createRecord_eq (s : State) (b : Report) :
    s.createRecord b = { s with queue := (s.createRecord b).queue, notices := (s.createRecord b).notices } := by
  by_cases h : s.queue.records.length < 64 <;> by_cases hh : s.queue.records.length + 1 = s.queue.highMark <;>
    simp [State.createRecord, State.depth, Config.queueCapacity, h, State.enterRecord, State.loseRecord, hh,
      State.setNotice]

/-- A flag that is set stays set when a record is created. -/
theorem State.createRecord_noticeSet {s : State} {n : Notice} (h : s.noticeSet n = true) (b : Report) :
    (s.createRecord b).noticeSet n = true := by
  unfold State.noticeSet at *
  by_cases hr : s.queue.records.length < 64 <;> by_cases hh : s.queue.records.length + 1 = s.queue.highMark <;>
    simp [State.createRecord, State.depth, Config.queueCapacity, hr, State.enterRecord, State.loseRecord, hh,
      State.setNotice, h]

/-- Setting a notice sets its flag. -/
@[simp] theorem State.setNotice_noticeSet (s : State) (n : Notice) : (s.setNotice n).noticeSet n = true := by
  cases n <;> simp [State.noticeSet, State.setNotice, Notice.bit, Notice.position]

/-- Setting a notice leaves a set flag set. -/
theorem State.noticeSet_setNotice {s : State} {n : Notice} (h : s.noticeSet n = true) (k : Notice) :
    (s.setNotice k).noticeSet n = true := by
  simp_all [State.noticeSet, State.setNotice]

/-- The arbiter changes its own decision alone. -/
theorem State.arbitrate_eq (s : State) :
    s.arbitrate = { s with arb := { s.arb with award := s.arbitrate.arb.award } } := by
  unfold State.arbitrate
  (repeat' split) <;> rfl

/-- The end of an operation frees the port and changes nothing but the decision else. -/
theorem State.releasePort_eq (s : State) :
    s.releasePort = { s with
      path := { s.path with memCycle := none }
      arb := { s.arb with owner := none, award := s.releasePort.arb.award } } := by
  unfold State.releasePort
  rw [State.arbitrate_eq]

/-- A region index operand that names a record. -/
theorem regionIndex_of_val {index : Byte} {r : Fin 32} (h : index.toNat = r.val) : regionIndex index = some r := by
  simp [regionIndex, h]

/-- A region index operand out of range. -/
theorem regionIndex_of_ge {index : Byte} (h : 32 ≤ index.toNat) : regionIndex index = none := by
  simp only [regionIndex, dif_neg (Nat.not_lt.2 h)]

/-- A link index operand that names a link. -/
theorem linkIndex_of_val {index : Byte} {i : Fin 8} (h : index.toNat = i.val) : linkIndex index = some i := by
  simp [linkIndex, h]

/-- A link index operand out of range. -/
theorem linkIndex_of_ge {index : Byte} (h : 8 ≤ index.toNat) : linkIndex index = none := by
  simp only [linkIndex, dif_neg (Nat.not_lt.2 h)]

/-- Replacing one place of a vector twice keeps the later value. -/
@[simp] theorem vector_set_set {α : Type} {n : Nat} (v : Vector α n) (i : Fin n) (x y : α) :
    (v.set i x).set i y = v.set i y := by
  apply Vector.ext
  intro j hj
  simp only [Vector.getElem_set]
  split <;> rfl

end Sys2Proof.Machine
end

