-- ==== Sys2Proof/Laws/Shadow.lean ====
section
/-! SUPPORT. The Shadow Store: what reading a word after each operation gives, and that every operation keeps the
canonical form. -/

namespace Sys2Proof.Machine

/-- After making word `k` valid with `w`, it reads `w` and every other word reads as before. -/
theorem shadowGet_shadowSet (m : List (Nat × Word)) (k j : Nat) (w : Word) :
    shadowGet (shadowSet m k w) j = if j = k then some w else shadowGet m j := by
  induction m with
  | nil =>
    by_cases h : j = k
    · simp [shadowSet, shadowGet, h]
    · simp [shadowSet, shadowGet, h, Ne.symm h]
  | cons p rest ih =>
    obtain ⟨i, v⟩ := p
    by_cases h1 : k < i
    · by_cases hj : j = k
      · simp [shadowSet, shadowGet, h1, hj]
      · simp [shadowSet, shadowGet, h1, hj, Ne.symm hj]
    · by_cases h2 : k = i
      · subst h2
        by_cases hj : j = k
        · simp [shadowSet, shadowGet, hj]
        · simp [shadowSet, shadowGet, hj, Ne.symm hj]
      · by_cases hj : j = i
        · have : ¬i = k := fun h => h2 h.symm
          simp [shadowSet, shadowGet, h1, h2, hj, this]
        · simp [shadowSet, shadowGet, h1, h2, ih, Ne.symm hj]

/-- After making a run invalid, its words read as invalid and every other word reads as before. -/
theorem shadowGet_shadowClear (m : List (Nat × Word)) (first length j : Nat) :
    shadowGet (shadowClear m first length) j =
      if first ≤ j ∧ j < first + length then none else shadowGet m j := by
  unfold shadowClear
  induction m with
  | nil => simp [shadowGet]
  | cons p rest ih =>
    obtain ⟨i, v⟩ := p
    by_cases hin : first ≤ i ∧ i < first + length
    · rw [List.filter_cons_of_neg (by simp [hin]), ih]
      by_cases hj : first ≤ j ∧ j < first + length
      · simp [hj]
      · have hij : i ≠ j := by rintro rfl; exact hj hin
        simp [hj, shadowGet, hij]
    · rw [List.filter_cons_of_pos (by
        rw [Bool.not_eq_true', Bool.and_eq_false_iff, decide_eq_false_iff_not, decide_eq_false_iff_not]
        exact Decidable.not_and_iff_or_not.1 hin)]
      simp only [shadowGet, ih]
      by_cases hij : i = j
      · subst hij; simp [hin]
      · simp [hij]

/-- The canonical form: every index below 4096, and the indices strictly ascending. -/
theorem Shadow.wf_iff (m : List (Nat × Word)) :
    Shadow.wf m = true ↔
      (∀ p ∈ m, p.1 < Config.shadowWords) ∧ m.Pairwise (fun p q => p.1 < q.1) := by
  induction m with
  | nil => simp [Shadow.wf]
  | cons p rest ih =>
    cases rest with
    | nil => simp [Shadow.wf]
    | cons q rest =>
      simp only [Shadow.wf, Bool.and_eq_true, decide_eq_true_eq, ih]
      constructor
      · rintro ⟨⟨h1, h2⟩, h3, h4⟩
        refine ⟨by simpa using ⟨h1, by simpa using h3⟩, ?_⟩
        refine List.pairwise_cons.2 ⟨?_, h4⟩
        intro x hx
        rcases List.mem_cons.1 hx with rfl | hx
        · exact h2
        · exact Nat.lt_trans h2 ((List.pairwise_cons.1 h4).1 x hx)
      · rintro ⟨h1, h2⟩
        have h3 := List.pairwise_cons.1 h2
        exact ⟨⟨h1 p (by simp), h3.1 q (by simp)⟩, fun x hx => h1 x (List.mem_cons_of_mem _ hx), h3.2⟩

/-- The words listed after making word `k` valid. -/
theorem mem_shadowSet {m : List (Nat × Word)} {k : Nat} {w : Word} {p : Nat × Word}
    (h : p ∈ shadowSet m k w) : p = (k, w) ∨ p ∈ m := by
  induction m with
  | nil => simpa [shadowSet] using h
  | cons q rest ih =>
    obtain ⟨i, v⟩ := q
    unfold shadowSet at h
    split at h
    · simpa using h
    · split at h
      · rcases List.mem_cons.1 h with rfl | h
        · simp
        · exact .inr (List.mem_cons_of_mem _ h)
      · rcases List.mem_cons.1 h with rfl | h
        · simp
        · rcases ih h with rfl | h
          · simp
          · exact .inr (List.mem_cons_of_mem _ h)

/-- Making a word below 4096 valid keeps the canonical form. -/
theorem shadowSet_wf {m : List (Nat × Word)} (h : Shadow.wf m = true) {k : Nat} (hk : k < Config.shadowWords)
    (w : Word) : Shadow.wf (shadowSet m k w) = true := by
  rw [Shadow.wf_iff] at h ⊢
  obtain ⟨hb, hp⟩ := h
  constructor
  · intro p hp'
    rcases mem_shadowSet hp' with rfl | hm
    · exact hk
    · exact hb p hm
  · clear hb
    induction m with
    | nil => simp [shadowSet]
    | cons q rest ih =>
      obtain ⟨i, v⟩ := q
      have hq := List.pairwise_cons.1 hp
      unfold shadowSet
      split
      · next hlt =>
        refine List.pairwise_cons.2 ⟨?_, hp⟩
        intro x hx
        rcases List.mem_cons.1 hx with rfl | hx
        · exact hlt
        · exact Nat.lt_trans hlt (hq.1 x hx)
      · split
        · next heq => subst heq; exact List.pairwise_cons.2 ⟨hq.1, hq.2⟩
        · next hnl hne =>
          refine List.pairwise_cons.2 ⟨?_, ih hq.2⟩
          intro x hx
          rcases mem_shadowSet hx with rfl | hx
          · show i < k
            omega
          · exact hq.1 x hx

/-- Making words invalid keeps the canonical form. -/
theorem shadowClear_wf {m : List (Nat × Word)} (h : Shadow.wf m = true) (first length : Nat) :
    Shadow.wf (shadowClear m first length) = true := by
  rw [Shadow.wf_iff] at h ⊢
  exact ⟨fun p hp => h.1 p (List.mem_of_mem_filter hp), h.2.filter _⟩

/-- The Shadow Store after a reset has the canonical form. -/
theorem shadow_reset_wf : Shadow.wf State.reset.shadow = true := rfl

end Sys2Proof.Machine
end

