-- ==== Sys2Proof/Laws/Traffic.lean ====
section
/-! SUPPORT. What the consumers of a completed cycle rest on: on two states whose regions, Settle Table, queue,
notices, monitor and Timebase agree, they do the same to all six. -/

namespace Sys2Proof.Machine

/-- The two states agree in what the detector, the integrators and the Event Queue read and write. -/
def State.agrees (s u : State) : Prop :=
  s.regions = u.regions ∧ s.settle = u.settle ∧ s.queue = u.queue ∧ s.notices = u.notices ∧
    s.monitor = u.monitor ∧ s.time = u.time

theorem State.agrees.region {s u : State} (h : s.agrees u) (r : Fin 32) : s.region r = u.region r := by
  simp [h.1]

theorem State.agrees.produce {s u : State} (h : s.agrees u) (b : Report) : (s.produce b).agrees (u.produce b) := by
  obtain ⟨h1, h2, h3, h4, h5, h6⟩ := h
  unfold State.produce
  rw [h5]
  split
  · exact ⟨by simpa, by simpa, State.createRecord_queue_congr h3 h6 b, State.createRecord_notices_congr h3 h4 b,
      by simpa, by simpa⟩
  · exact ⟨h1, h2, h3, h4, h5, h6⟩

theorem State.agrees.modRegion {s u : State} (h : s.agrees u) (r : Fin 32) (f : Region → Region) :
    (s.modRegion r f).agrees (u.modRegion r f) := by
  obtain ⟨h1, h2, h3, h4, h5, h6⟩ := h
  exact ⟨by simp [h1], h2, h3, h4, h5, h6⟩

theorem State.agrees.setNotice {s u : State} (h : s.agrees u) (n : Notice) :
    (s.setNotice n).agrees (u.setNotice n) := by
  obtain ⟨h1, h2, h3, h4, h5, h6⟩ := h
  exact ⟨h1, h2, h3, by simp [State.setNotice, h4], h5, h6⟩

theorem State.agrees.recordChange {s u : State} (h : s.agrees u) (r : Fin 32) (a : Addr) (old new : Word)
    (st un : Bool) : (s.recordChange r a old new st un).agrees (u.recordChange r a old new st un) :=
  (h.modRegion _ _).produce _

theorem State.agrees.dropEntry {s u : State} (h : s.agrees u) (a : Addr) :
    (s.dropEntry a).agrees (u.dropEntry a) := by
  obtain ⟨h1, h2, h3, h4, h5, h6⟩ := h
  exact ⟨h1, by simp [h2], h3, h4, h5, h6⟩

theorem State.agrees.detect {s u : State} (h : s.agrees u) (r : Fin 32) (a : Addr) (old new : Word) :
    (s.detect r a old new).agrees (u.detect r a old new) := by
  have h' := h
  obtain ⟨h1, h2, h3, h4, h5, h6⟩ := h'
  unfold State.detect State.settleEntry
  simp only [h.region, h2]
  split
  · split
    · exact h.recordChange _ _ _ _ _ _
    · exact h
  · split
    · split
      · split
        · exact ⟨h1, by simp, h3, h4, h5, h6⟩
        · exact h.recordChange _ _ _ _ _ _
      · exact h
    · split
      · exact h
      · split
        · exact ⟨h1, by simp, h3, h4, h5, h6⟩
        · exact (h.dropEntry a).modRegion _ _

theorem State.agrees.judgeAlert {s u : State} (h : s.agrees u) (r : Fin 32) (a : Addr) :
    (s.judgeAlert r a).agrees (u.judgeAlert r a) := by
  unfold State.judgeAlert
  simp only [h.region]
  split
  · exact ((h.modRegion _ _).setNotice _).produce _
  · exact h

theorem State.agrees.judgeTrip {s u : State} (h : s.agrees u) (r : Fin 32) (a : Option Addr) :
    (s.judgeTrip r a).agrees (u.judgeTrip r a) := by
  unfold State.judgeTrip
  simp only [h.region]
  split
  · exact ((h.modRegion _ _).setNotice _).produce _
  · exact h

theorem State.agrees.integrate {s u : State} (h : s.agrees u) (r : Fin 32) (a : Addr) :
    (s.integrate r a).agrees (u.integrate r a) := by
  unfold State.integrate
  simp only [h.region]
  split
  · exact h
  · exact ((h.modRegion _ _).judgeAlert _ _).judgeTrip _ _

/-- The answer to the master touches the Cycle Path alone. -/
theorem State.answerMaster_agrees (s : State) (d : Option BusData) : (s.answerMaster d).agrees s := by
  refine ⟨?_, ?_, ?_, ?_, ?_, ?_⟩ <;> simp

/-- A sensed change is a bit that differs in a direction its mask enables (R67). -/
theorem sensed_iff (c : RegionConfig) (was is : Word) :
    sensed c was is = true ↔ ∃ n : Fin 16, is.getLsbD n ≠ was.getLsbD n ∧
      (is.getLsbD n = true → c.riseMask.getLsbD n = true) ∧
      (was.getLsbD n = true → c.fallMask.getLsbD n = true) := by
  unfold sensed
  rw [bne_iff_ne, ne_eq, BitVec.eq_of_getLsbD_eq_iff]
  push Not
  constructor
  · rintro ⟨i, hi, h⟩
    refine ⟨⟨i, hi⟩, ?_⟩
    simp [sensedBits, hi] at h ⊢
    cases hw : was.getLsbD i <;> cases hs : is.getLsbD i <;> simp_all
  · rintro ⟨⟨i, hi⟩, h⟩
    refine ⟨i, hi, ?_⟩
    simp [sensedBits, hi] at h ⊢
    cases hw : was.getLsbD i <;> cases hs : is.getLsbD i <;> simp_all

/-- A write's address clashes where it lies in a READY or ACTIVE link's buffer (R32). -/
theorem State.clashes_iff (s : State) (a : Addr) :
    s.clashes a = true ↔
      ∃ i : Fin 8, ((s.link i).state = .ready ∨ (s.link i).state = .active) ∧ (s.link i).covers a := by
  simp [State.clashes, Link.liveBuffer, Link.covers, and_assoc]

end Sys2Proof.Machine
end

