-- ==== Sys2Proof/Tests/Slice0.lean ====
section
/-! SUPPORT. Tests of the model: the well-formedness smoke, values the spec writes out, and for every obligation with
hypotheses a concrete state and operands that meet them (`witness_<Name>`). -/

namespace Sys2Proof.Tests

set_option Elab.async false

open Sys2Proof Sys2Proof.Machine

/-! ### Helpers -/

/-- The state after a command. -/
def after (c : Instr) (s : State) : State :=
  match exec c s with
  | .next t => t
  | _ => s

/-- A frame with this command byte and these operand bytes is in progress. -/
def receivingFrame (s : State) (code : Byte) (ops : List Byte) (latch : Latch := .nothing) (units : Nat := 0) :
    State :=
  { s with port := { s.port with selected := true, frame := some ⟨some code, ops, latch, units, []⟩ } }

theorem receivingFrame_receiving (s : State) (code : Byte) (ops : List Byte) :
    (receivingFrame s code ops).receiving code ops := ⟨_, rfl, rfl, rfl⟩

/-- The block in a monitor state. -/
def monitored (s : State) (m : MonitorState) : State := { s with monitor := { s.monitor with state := m } }

/-- A four-word WATCH and VERIFY region with a trip threshold. -/
def watched : RegionConfig :=
  { RegionConfig.zero with
    base := 0x07000
    limit := 0x07003
    watch := true
    verify := true
    riseMask := 0x00FF
    fallMask := 0x000F
    settleTime := 3
    weight := 15
    alertThreshold := 10
    tripThreshold := 20 }

/-- A LOCK region right after the watched one. -/
def locked : RegionConfig :=
  { RegionConfig.zero with base := 0x07004, limit := 0x07007, lock := true, policy := .error, weight := 1 }

/-- The block with region 0 watched in a state, its extent at shadow index 0. -/
def withWatched (s : State) (st : RegionState) (c : RegionConfig := watched) : State :=
  { s.setRegion 0 (Region.fresh st c) with alloc := [⟨0, 4, 0⟩] }

/-- The block in RUN with region 0 LIVE and its four words valid with 0x0010, and region 1 a LIVE LOCK region. -/
def live : State :=
  { (withWatched (monitored State.reset .run) .live).setRegion 1 (Region.fresh .live locked) with
    shadow := [(0, 0x0010), (1, 0x0010), (2, 0x0010), (3, 0x0010)] }

/-- The block in RUN with region 0 PRIMING, word 0 valid, and the Prime Engine's grant decided. -/
def priming : State :=
  { withWatched (monitored State.reset .run) .priming with
    shadow := [(0, 0x0010)]
    prime := { served := some 0, read := none, claim := true }
    arb := { State.reset.arb with award := some .prime } }

/-- A record. -/
def recorded : Record := Record.make { kind := .snap, valueA := 0, valueB := 0 } 0 0

/-- A link of `capacity` words at 0x02000 that asks for a notice, next link 1. -/
def buffer (capacity : Word) (st : LinkState) (endOfChain : Bool := false) : Link where
  base := 0x02000
  capacity := capacity
  next := 1
  endOfChain := endOfChain
  notify := true
  state := st
  fill := 0
  closeReason := none

/-- The drain RUNNING into link 0, with records waiting and its burst holding the port. -/
def draining (capacity : Word) (burst : Nat) (records : List Record) : State :=
  let s := State.reset.setLink 0 (buffer capacity .active)
  { s with
    queue := { s.queue with records := records }
    drain := { s.drain with state := .running, current := some 0 }
    path := { s.path with memCycle := some (drainCycle 0x02007 0) }
    arb := { s.arb with owner := some .drain, burstCount := burst } }

/-- The head record's last word is being written. -/
def lastWord (s : State) : State := { s with drain := { s.drain with recordInFlight := some 7 } }

/-- A pad word is being written. -/
def padding (s : State) (k : Nat) : State := { s with drain := { s.drain with padInFlight := some k } }

/-- A master cycle granted next: the arbiter has decided for it. -/
def granted (s : State) (write : Bool) (a : Addr) : State :=
  { s with
    path := { s.path with
      cycle := some ⟨write, a, 3, if write then 0x0011 else 0, if write then 3 else 0, .waiting⟩
      mwait := true }
    arb := { s.arb with award := some .master } }

/-- A forwarded master cycle whose SRDY is awaited. -/
def forwarded (s : State) (write : Bool) (a : Addr) (d : Word) (enables : BitVec 2 := 3) : State :=
  { s with
    path := { s.path with
      cycle := some ⟨write, a, enables, d, 3, .forwarded⟩
      mwait := true
      memCycle := some ⟨write, a, enables, d, 3⟩ }
    arb := { s.arb with owner := some .master } }

/-! ### Well-formedness -/

theorem test_startDrain_with_continue_operand_is_ill_formed :
    (Instr.startDrain [0xFF] (.whole 0)).wellFormed = false := by decide
theorem test_badCommand_with_known_code_is_ill_formed :
    (Instr.badCommand (some 0x4F) (.whole 0)).wellFormed = false := by decide
theorem test_masterCycle_without_strobe_is_ill_formed :
    (Instr.masterCycleArrives false false 0 3 0 0).wellFormed = false := by decide
theorem test_startDrain_naming_a_link_is_well_formed :
    (Instr.startDrain [0x07] (.whole 0)).wellFormed = true := by decide
theorem test_table_words_spell_no_command : decodeTableWord 16 0x0001 = none := rfl

/-! ### Values the spec writes out -/

/-- Table 6-3. -/
theorem test_settled_change_record_layout :
    (Record.make { kind := .change, settled := true, region := some 7, addr := some 0x07000
                   valueA := 0x0100, valueB := 0x0104 } 0x3A2C 0x0041).words =
      [0x19E0, 0x8000, 0x7000, 0x0100, 0x0104, 0x3A2C, 0x0041, 0xD389] := by decide +kernel

/-- Section 6.1, the LOSS record under Table 6-3. -/
theorem test_loss_record_layout :
    (Record.make { kind := .loss, valueA := 3, valueB := 0x00C8 } 0x3A31 0x00CB).words =
      [0x7000, 0x0000, 0x0000, 0x0003, 0x00C8, 0x3A31, 0x00CB, 0x4A31] := by decide +kernel

/-- Table 10-10, the status bytes 0x2C and 0xAC. -/
theorem test_status_bytes_of_table_10_10 :
    let s : State := { monitored (draining 16 4 [recorded]) .run with notices := { State.reset.notices with mask := 1 } }
    s.statusByte = 0x2C ∧ (s.setNotice .linkDone).statusByte = 0xAC := by decide +kernel

/-- Frames spelled as Table 10-3 gives them. -/
theorem test_frames_decode :
    decodeFrame [0x22, 0x03] (.whole 0) = .startDrain [0x03] (.whole 0) ∧
    decodeFrame [0x22, 0xFF] (.whole 0) = .startDrainContinue (.whole 0) ∧
    decodeFrame [0x42, 0x0F, 0xFF] .finish = .setShadowPointer [0x0F, 0xFF] .finish ∧
    decodeFrame [0x05] (.whole 0) = .badCommand (some 0x05) (.whole 0) ∧
    decodeFrame [] (.whole 0) = .badCommand none (.whole 0) := by decide +kernel

/-- Table 1-4, the commits of LOCK-only ranges to index 1. -/
theorem test_commit_outcomes_of_table_1_4 :
    let s : State :=
      { (State.reset.setRegion 0 (Region.fresh .idle
          { watched with base := 0x10000, limit := 0x10FFF })).setLink 0
          { buffer 0x400 .ready with base := 0x20000 } with
        alloc := [⟨0, 4096, 0⟩]
        staging := { locked with base := 0x10800, limit := 0x10900 } }
    (after (.commitRegion [1] (.whole 0)) s).port.lastResult = .overlap ∧
    (after (.commitRegion [1] (.whole 0))
      { s with staging := { locked with base := 0x20100, limit := 0x20200 } }).port.lastResult = .ok ∧
    (after (.commitRegion [0] (.whole 0))
      { s with staging := { watched with base := 0x11000, limit := 0x11FFF } }).alloc = [⟨0, 4096, 0⟩] := by
  decide +kernel

/-- Table 3-1, the free words and the first fits of the last row. -/
theorem test_free_shadow_words_of_table_3_1 :
    let alloc : List Extent := [⟨0, 900, 0⟩, ⟨1024, 300, 4⟩, ⟨1536, 2048, 2⟩]
    freeShadowWords alloc = 848 ∧ largestFree 0 alloc = 512 ∧ firstFit 124 0 alloc = some 900 ∧
      firstFit 213 0 alloc = some 3584 ∧ firstFit 513 0 alloc = none := by decide +kernel

/-- Table 4-3, its first write and its bounce. -/
theorem test_settling_of_table_4_3 :
    let opened := live.detect 0 0x07000 0x0010 0x0011
    opened.settle = [⟨0, 0x07000, 0x0010, 0x0011, 3⟩] ∧
    (opened.detect 0 0x07000 0x0011 0x0010).settle = [] ∧
    ((opened.detect 0 0x07000 0x0011 0x0010).region 0).bouncesSuppressed = 1 ∧
    live.detect 0 0x07000 0x0010 0x0110 = live := by decide +kernel

/-- Table 9-2, the third base tick, which gives a decay tick. -/
theorem test_third_base_tick_of_table_9_2 :
    let s : State := { State.reset with time := ⟨4, 3, 0x0102, 3, 1, 1⟩ }
    (after .tclkPeriod s).time = ⟨4, 0, 0x0103, 3, 3, 1⟩ := by decide +kernel

/-- Table 2-2, the decision at the master write's SRDY and the closure with four pads. -/
theorem test_arbitration_of_table_2_2 :
    let waiting : State := { draining 36 0 (List.replicate 6 recorded) with
      prime := { served := some 3, read := none, claim := true }
      arb := { owner := none, award := none, burstCount := 0, lastBackground := .prime } }
    waiting.decision = some .drain ∧
    (after .recordWriteCompletion (lastWord
      ((draining 36 1 (List.replicate 3 recorded)).setLink 0 { buffer 36 .active with fill := 3 }))).drain.padInFlight =
      some 0 := by decide +kernel

/-- READ_STATUS right after power-on (Table 10-4). -/
theorem test_read_status_after_reset :
    (after (.readStatus (.whole 22)) State.reset).port.sent =
      [0x00, 0x00, 0x74, 0x20, 0x10, 0, 0, 0, 0, 0xFF, 0, 0, 0, 0, 0, 0, 0, 0x10, 0x00, 0x10, 0x00, 0x00, 0x00] := by
  decide +kernel

/-- A frame of one byte sends the status byte alone (R175). -/
theorem test_one_byte_frame_sends_the_status_byte :
    (after (.readStatus (.whole 0)) live).port.sent = [0x20] ∧
    (after (.readStatus (.whole 0)) live).port.lastResult = .ok := by decide +kernel

/-- A refused read sends 0x00 from byte 2 on (R172), and its result is byte 1 of the next frame (Table 10-10). -/
theorem test_refused_read_sends_zeros :
    let refused := after (.readRegion [40] (.whole 3)) live
    refused.port.sent = [0x20, 0, 0, 0, 0] ∧
    (after (.arm (.whole 2)) refused).port.sent = [0x21, 0x02, 0] := by decide +kernel

/-- The notice that sets between the fall of CFG_CS# and the command byte is in READ_NOTICE's latch, not in its status
byte (R175, R181). -/
theorem test_notice_between_fall_and_command_byte :
    let begun : State := { live with notices := { live.notices with mask := 1 } }
    let noticed := (after (.readNotice .start) begun).setNotice .linkDone
    (after (.readNotice .finish) (exchangeBytes readNoticeFrame [] 4 noticed)).port.sent = [0x20, 0, 0x00, 0x01] := by
  decide +kernel

/-- A full reset after three bytes and three bits: the bits shifted out stand, the rest of the frame is 0 (R174, log entry 21). -/
theorem test_full_reset_ends_the_frame :
    let three := exchangeBytes readStatusFrame [] 3 (openFrame live)
    let bits := riseClock readStatusFrame [] (fallClock readStatusFrame (riseClock readStatusFrame []
      (fallClock readStatusFrame (riseClock readStatusFrame [] three))))
    let reset := after .fullReset bits
    let ended := after (.readStatus .finish) (after (.readStatus .byte) (after .fullReset three))
    bits.port.out = 0x20 ∧ reset.port.out = 0x20 ∧ reset.cfgDo = some true ∧
    (fallClock readStatusFrame reset).cfgDo = some false ∧
    ended.port.sent = [0x20, 0x00, 0x74, 0x00] ∧ ended.port.lastResult = .ok ∧ ended.port.selected = false := by
  decide +kernel

/-- Eight clock periods are a byte (R172). -/
theorem test_eight_clock_periods_are_a_byte :
    let periods := (List.replicate 8 [Instr.readStatus .clockRises, Instr.readStatus .clockFalls]).flatten
    (periods ++ periods ++ periods).foldl (fun s c => after c s) (openFrame live) =
      exchangeBytes readStatusFrame [] 3 (openFrame live) := by decide +kernel

/-! ### Witnesses: the queue of commands, resets and frames -/

theorem witness_StepRunsFrontCommand : State.reset.pending = [] := rfl

theorem witness_FullResetsTakeSpecValues :
    (receivingFrame live 0x4F []).receiving 0x4F [] ∧
    live.monitor.rstHigh = true ∧ live.port.rstPartial = false ∧
    (after .fullReset (openFrame live)).port.frame = none ∧ (after .fullReset (openFrame live)).betweenBytes :=
  ⟨receivingFrame_receiving _ _ _, by decide +kernel, by decide +kernel, by decide +kernel,
    ⟨by decide +kernel, by decide +kernel, by decide +kernel⟩⟩

theorem witness_PartialResetKeepsWhatSoftwareBuilt :
    let s : State := { live with port := { live.port with rstPartial := true } }
    s.monitor.rstHigh = true ∧ s.port.rstPartial = true := by decide +kernel

theorem witness_ResetCauseChangesByResetsAlone :
    exec .fullReset live = .next (after .fullReset live) ∧ (after .fullReset live).monitor.cause = .lineFull :=
  ⟨rfl, by decide +kernel⟩

theorem witness_FrameOpensWithStatusAndResult :
    live.port.selected = false ∧ (openFrame live).betweenBytes ∧ (receivingFrame live 0x42 [0x0F]).betweenBytes ∧
    (∃ f, (openFrame live).port.frame = some f ∧ f.command = none ∧ f.ops = []) ∧
    (∃ f, (receivingFrame live 0x42 [0x0F]).port.frame = some f ∧ f.command = some 0x42 ∧ f.data = [] ∧
      f.ops.length < operandBytes 0x42) ∧ (0x42 : Byte) ∉ ([0x01, 0x02, 0x12, 0x21, 0x26, 0x43] : List Byte) :=
  ⟨rfl, ⟨rfl, rfl, rfl⟩, ⟨rfl, rfl, rfl⟩, ⟨_, rfl, rfl, rfl⟩, ⟨_, rfl, rfl, rfl, by decide⟩, by decide⟩

theorem witness_FramePartsMakeTheWhole :
    live.port.selected = false ∧
    encodeFrame (decodeFrame [0x43, 0x02] (.whole 6)) = some ([0x43, 0x02], .whole 6) ∧
    (receivingFrame live 0x43 []).betweenBytes ∧
    (∀ f, (receivingFrame live 0x43 []).port.frame = some f →
      ([0x43, 0x02] : List Byte) ≠ [] ∧ (f.command = none ∨ f.command = ([0x43, 0x02] : List Byte).head?)) := by
  refine ⟨rfl, rfl, ⟨rfl, rfl, rfl⟩, ?_⟩
  intro f hf
  cases hf
  exact ⟨by decide, .inr rfl⟩

theorem witness_FramesWithoutEffect :
    (receivingFrame live 0x10 (List.replicate 16 0)).receiving 0x10 (List.replicate 16 0) ∧
    (receivingFrame live 0x05 []).receiving 0x05 [] ∧
    (List.replicate 16 (0 : Byte)).length < operandBytes 0x10 ∧ (0x05 : Byte) ∉ knownCodes ∧
    live.port.selected = false ∧
    ∃ f, (openFrame live).port.frame = some f ∧ f.command = none :=
  ⟨receivingFrame_receiving _ _ _, receivingFrame_receiving _ _ _, by decide, by decide, rfl, _, rfl, rfl⟩

theorem witness_RefusedFramesChangeNothing :
    let s := receivingFrame live 0x32 []
    exec (decodeFrame [0x32] .finish) s = .next (after (decodeFrame [0x32] .finish) s) ∧
    (after (decodeFrame [0x32] .finish) s).port.lastResult ≠ .ok :=
  ⟨rfl, by decide +kernel⟩

/-! ### Witnesses: notices, status, options, timebase, shadow readout -/

theorem witness_ClearNoticeClearsNamedFlags :
    (receivingFrame live 0x03 [0x07, 0xFF]).receiving 0x03 [0x07, 0xFF] := receivingFrame_receiving _ _ _

theorem witness_NoticeMaskAndAtn :
    (receivingFrame live 0x04 [0xFF, 0xFF]).receiving 0x04 [0xFF, 0xFF] := receivingFrame_receiving _ _ _

theorem witness_ReadNoticeReturnsAndAutoclears :
    live.port.selected = false ∧ (openFrame live).betweenBytes ∧
    (∃ f, (openFrame live).port.frame = some f ∧ f.command = none) ∧
    ∃ f, (receivingFrame live 0x02 [] (.notices 0x080 none .complete)).port.frame = some f ∧
      f.command = some 0x02 ∧ f.latch = .notices 0x080 none .complete :=
  ⟨rfl, ⟨rfl, rfl, rfl⟩, ⟨_, rfl, rfl⟩, _, rfl, rfl, rfl⟩

theorem witness_ReadStatusReportsOneMoment :
    let shifting : State := { receivingFrame live 0x01 [0] with port := { (receivingFrame live 0x01 [0]).port with
      frame := some ⟨some 0x01, [0], .nothing, 1, live.statusBytes.tail⟩ } }
    let alloc : List Extent := [⟨0, 1024, 0⟩, ⟨1536, 2048, 2⟩]
    live.port.selected = false ∧ (receivingFrame live 0x01 []).betweenBytes ∧ shifting.betweenBytes ∧
    (∃ f, (receivingFrame live 0x01 []).port.frame = some f ∧ f.command = some 0x01 ∧ f.ops = [] ∧ f.units = 0 ∧
      f.data = []) ∧
    (∃ f b rest, shifting.port.frame = some f ∧ f.command = some 0x01 ∧ f.ops ≠ [] ∧ f.data = b :: rest) ∧
    (∀ e ∈ alloc, 1 ≤ e.length ∧ e.first + e.length ≤ 4096) ∧
    alloc.Pairwise (fun e e' => e.first + e.length ≤ e'.first) ∧ largestFree 0 alloc = 512 :=
  ⟨rfl, ⟨rfl, rfl, rfl⟩, ⟨rfl, rfl, rfl⟩, ⟨_, rfl, rfl, rfl, rfl, rfl⟩, ⟨_, _, _, rfl, rfl, by decide, rfl⟩,
    by decide +kernel⟩

theorem witness_SetOptionsInstallsAllFive :
    (receivingFrame live 0x41 [7, 16, 1]).receiving 0x41 [7, 16, 1] ∧
    (receivingFrame State.reset 0x41 [7, 17, 1]).receiving 0x41 [7, 17, 1] ∧
    (receivingFrame State.reset 0x41 [7, 16, 64]).receiving 0x41 [7, 16, 64] ∧
    (receivingFrame live 0x41 [7, 16, 1]).monitor.state ≠ .standby ∧
    (receivingFrame State.reset 0x41 [7, 16, 64]).monitor.state = .standby ∧
    ¬(1 ≤ (17 : Byte).toNat ∧ (17 : Byte).toNat ≤ 16 ∧ 1 ≤ (1 : Byte).toNat ∧ (1 : Byte).toNat ≤ 64) ∧
    (1 ≤ (16 : Byte).toNat ∧ (16 : Byte).toNat ≤ 16 ∧ 1 ≤ (64 : Byte).toNat ∧ (64 : Byte).toNat ≤ 64) :=
  ⟨receivingFrame_receiving _ _ _, receivingFrame_receiving _ _ _, receivingFrame_receiving _ _ _,
    by decide +kernel⟩

theorem witness_SetTimebaseRestartsCounts :
    (receivingFrame live 0x40 [0, 0, 0, 255]).receiving 0x40 [0, 0, 0, 255] ∧
    (receivingFrame State.reset 0x40 [0, 0, 0, 0]).receiving 0x40 [0, 0, 0, 0] ∧
    (receivingFrame State.reset 0x40 [0, 0, 0, 255]).receiving 0x40 [0, 0, 0, 255] ∧
    (receivingFrame live 0x40 [0, 0, 0, 255]).monitor.state ≠ .standby ∧
    (receivingFrame State.reset 0x40 [0, 0, 0, 255]).monitor.state = .standby ∧ (255 : Byte) ≠ 0 :=
  ⟨receivingFrame_receiving _ _ _, receivingFrame_receiving _ _ _, receivingFrame_receiving _ _ _,
    by decide +kernel⟩

theorem witness_ShadowPointerMovesByItsCommands :
    let s := receivingFrame live 0x42 [0x0F, 0xFF]
    s.receiving 0x42 [0x0F, 0xFF] ∧ (receivingFrame live 0x42 [0x10, 0x00]).receiving 0x42 [0x10, 0x00] ∧
    exec (.setShadowPointer [0x0F, 0xFF] .finish) s = .next (after (.setShadowPointer [0x0F, 0xFF] .finish) s) ∧
    (wordOf 0x0F 0xFF).toNat ≤ 4095 ∧ 4095 < (wordOf 0x10 0x00).toNat ∧
    (after (.setShadowPointer [0x0F, 0xFF] .finish) s).shadowPointer ≠ s.shadowPointer :=
  ⟨receivingFrame_receiving _ _ _, receivingFrame_receiving _ _ _, rfl, by decide +kernel⟩

theorem witness_ReadShadowReturnsConsecutiveWords :
    live.port.selected = false ∧ (1 ≤ (64 : Byte).toNat ∧ (64 : Byte).toNat ≤ 64) ∧
    ¬(1 ≤ (65 : Byte).toNat ∧ (65 : Byte).toNat ≤ 64) ∧ ¬(1 ≤ (0 : Byte).toNat ∧ (0 : Byte).toNat ≤ 64) := by
  decide +kernel

theorem witness_ReadRegionAndReadLinkReturnRecords :
    live.port.selected = false ∧ (31 : Byte).toNat = (31 : Fin 32).val ∧ 32 ≤ (32 : Byte).toNat ∧
    (32 : Byte) ≠ 0xFF ∧ (7 : Byte).toNat = (7 : Fin 8).val ∧ 8 ≤ (8 : Byte).toNat := by decide +kernel

/-! ### Witnesses: regions -/

theorem witness_StageRegionReplacesStaging :
    (receivingFrame live 0x10 (List.replicate 17 0xFF)).receiving 0x10 (List.replicate 17 0xFF) :=
  receivingFrame_receiving _ _ _

/-- Region 1 is committed next to the watched region 0, first with a shadow, then without. -/
theorem witness_CommitRegionInstallsStaging :
    let s := receivingFrame { withWatched State.reset .idle with
      staging := { watched with base := 0x07004, limit := 0x07007 } } 0x11 [1]
    let u := receivingFrame { withWatched State.reset .idle with staging := locked } 0x11 [1]
    s.receiving 0x11 [1] ∧ u.receiving 0x11 [1] ∧ (1 : Byte).toNat = (1 : Fin 32).val ∧
    (s.region 1).state = .free ∧ s.staging.base.toNat ≤ s.staging.limit.toNat ∧ s.staging.watch = true ∧
    1 ≤ s.staging.weight.toNat ∧ s.staging.weight.toNat ≤ 15 ∧
    (s.staging.tripThreshold ≠ 0 → s.staging.alertThreshold.toNat ≤ s.staging.tripThreshold.toNat) ∧
    (∀ i : Fin 32, i ≠ 1 → (s.region i).committed →
      s.staging.limit.toNat < (s.region i).cfg.base.toNat ∨ (s.region i).cfg.limit.toNat < s.staging.base.toNat) ∧
    s.staging.limit.toNat - s.staging.base.toNat + 1 ≤ 4096 ∧
    (∀ i : Fin 8, (s.link i).state = .ready ∨ (s.link i).state = .active →
      s.staging.limit.toNat < (s.link i).base.toNat ∨ (s.link i).lastWord < s.staging.base.toNat) ∧
    firstFit (s.staging.limit.toNat - s.staging.base.toNat + 1) 0 (s.alloc.filter fun e => e.region ≠ 1) = some 4 ∧
    (u.region 1).state = .free ∧ u.staging.base.toNat ≤ u.staging.limit.toNat ∧ u.staging.lock = true ∧
    1 ≤ u.staging.weight.toNat ∧ u.staging.weight.toNat ≤ 15 ∧ u.staging.tripThreshold = 0 ∧
    (∀ i : Fin 32, i ≠ 1 → (u.region i).committed →
      u.staging.limit.toNat < (u.region i).cfg.base.toNat ∨ (u.region i).cfg.limit.toNat < u.staging.base.toNat) ∧
    ¬(u.staging.watch ∨ u.staging.verify) :=
  ⟨receivingFrame_receiving _ _ _, receivingFrame_receiving _ _ _, by decide +kernel⟩

theorem witness_CommitRegionChecksInOrder :
    let s := receivingFrame { withWatched State.reset .idle with staging := watched } 0x11 [1]
    let full := receivingFrame { State.reset with staging := watched, alloc := [⟨0, 4096, 5⟩] } 0x11 [1]
    let fits (c : RegionConfig) : Bool := decide (c.base.toNat ≤ c.limit.toNat ∧
      (c.watch ∨ c.verify ∨ c.lock ∨ c.tripThreshold ≠ 0) ∧ (1 ≤ c.weight.toNat ∧ c.weight.toNat ≤ 15) ∧
      (c.tripThreshold ≠ 0 → c.alertThreshold.toNat ≤ c.tripThreshold.toNat) ∧
      (c.watch ∨ c.verify → c.limit.toNat - c.base.toNat + 1 ≤ 4096))
    (receivingFrame live 0x11 [32]).receiving 0x11 [32] ∧ (receivingFrame live 0x11 [0]).receiving 0x11 [0] ∧
    s.receiving 0x11 [1] ∧ full.receiving 0x11 [1] ∧
    32 ≤ (32 : Byte).toNat ∧ (1 : Byte).toNat = (1 : Fin 32).val ∧ ((receivingFrame live 0x11 [0]).region 0).enabled ∧
    (State.reset.region 1).enabled = false ∧ ¬fits State.reset.staging ∧ ¬fits { watched with weight := 16 } ∧
    ¬fits { watched with alertThreshold := 21 } ∧ ¬fits { watched with base := 0x07004 } ∧
    ¬fits { watched with limit := 0x08000 } ∧ ¬fits { locked with lock := false } ∧
    fits { watched with limit := 0x07FFF, weight := 1, alertThreshold := 20 } ∧
    (s.region 1).enabled = false ∧ fits s.staging ∧ s.meetsRegion 1 s.staging ∧
    (full.region 1).enabled = false ∧ fits full.staging ∧ full.meetsRegion 1 full.staging = false ∧
    full.meetsLiveLink full.staging = false ∧ full.staging.shadowed ∧
    firstFit full.staging.size 0 (removeExtent 1 full.alloc) = none :=
  ⟨receivingFrame_receiving _ _ _, receivingFrame_receiving _ _ _, receivingFrame_receiving _ _ _,
    receivingFrame_receiving _ _ _, by decide +kernel⟩

theorem witness_FirstFitIsLowestFreeRun :
    let alloc : List Extent := [⟨0, 1024, 0⟩, ⟨1536, 2048, 2⟩]
    1 ≤ 600 ∧ (∀ e ∈ alloc, 1 ≤ e.length ∧ e.first + e.length ≤ 4096) ∧
    alloc.Pairwise (fun e e' => e.first + e.length ≤ e'.first) ∧
    firstFit 512 0 alloc = some 1024 ∧ firstFit 600 0 alloc = none := by decide +kernel

theorem witness_EnableRegionLeavesIdle :
    let standby := receivingFrame (withWatched State.reset .idle) 0x13 [0]
    let plain := receivingFrame (withWatched (monitored State.reset .run) .idle locked) 0x13 [0]
    let shadowed := receivingFrame (withWatched (monitored State.reset .run) .idle) 0x13 [0]
    standby.receiving 0x13 [0] ∧ plain.receiving 0x13 [0] ∧ shadowed.receiving 0x13 [0] ∧
    (0 : Byte).toNat = (0 : Fin 32).val ∧ (standby.region 0).state = .idle ∧ standby.monitor.state = .standby ∧
    (plain.region 0).state = .idle ∧ plain.monitor.state ≠ .standby ∧ (plain.region 0).cfg.watch = false ∧
    (plain.region 0).cfg.verify = false ∧
    (shadowed.region 0).state = .idle ∧ shadowed.monitor.state ≠ .standby ∧ (shadowed.region 0).cfg.watch = true ∧
    (∀ i : Fin 32, (shadowed.region i).state ≠ .priming) ∧ shadowed.prime.read = none ∧
    shadowed.extentOf 0 = some ⟨0, 4, 0⟩ ∧ shadowGet shadowed.shadow 0 = none :=
  ⟨receivingFrame_receiving _ _ _, receivingFrame_receiving _ _ _, receivingFrame_receiving _ _ _,
    by decide +kernel⟩

theorem witness_DisableRegionForgetsTheRegion :
    let s := receivingFrame { priming with prime := { served := some 0, read := some ⟨0, 0x07001, false⟩
                                                      claim := false } } 0x14 [0]
    s.receiving 0x14 [0] ∧ (receivingFrame live 0x14 [0]).receiving 0x14 [0] ∧
    (0 : Byte).toNat = (0 : Fin 32).val ∧ (s.region 0).state = .priming ∧
    s.prime.read = some ⟨0, 0x07001, false⟩ ∧ s.extentOf 0 = some ⟨0, 4, 0⟩ ∧
    ((receivingFrame live 0x14 [0]).region 0).state = .live :=
  ⟨receivingFrame_receiving _ _ _, receivingFrame_receiving _ _ _, by decide +kernel⟩

theorem witness_RegionMaintenanceCommands :
    let idle := receivingFrame (withWatched State.reset .idle) 0x15 [0]
    idle.receiving 0x15 [0] ∧ (receivingFrame live 0x16 [0, 1, 2, 3, 4]).receiving 0x16 [0, 1, 2, 3, 4] ∧
    (receivingFrame live 0x17 [0]).receiving 0x17 [0] ∧ (receivingFrame live 0x18 [0]).receiving 0x18 [0] ∧
    (0 : Byte).toNat = (0 : Fin 32).val ∧ (idle.region 0).state = .idle ∧ (live.region 0).state ≠ .free :=
  ⟨receivingFrame_receiving _ _ _, receivingFrame_receiving _ _ _, receivingFrame_receiving _ _ _,
    receivingFrame_receiving _ _ _, by decide +kernel⟩

theorem witness_RegionCommandsRefuse :
    let s := receivingFrame live 0x19 [32, 0, 0, 0, 0]
    s.receiving 0x19 [32, 0, 0, 0, 0] ∧ (receivingFrame live 0x13 [0]).receiving 0x13 [0] ∧
    (receivingFrame live 0x14 [31]).receiving 0x14 [31] ∧ (receivingFrame live 0x18 [31]).receiving 0x18 [31] ∧
    (0x19 : Byte) ∈ ([0x13, 0x14, 0x15, 0x16, 0x17, 0x18, 0x19] : List Byte) ∧
    operandBytes 0x19 ≤ ([32, 0, 0, 0, 0] : List Byte).length ∧ 32 ≤ (32 : Byte).toNat ∧
    (31 : Byte).toNat = (31 : Fin 32).val ∧ (live.region 0).state ≠ .idle ∧ (live.region 31).state = .free :=
  ⟨receivingFrame_receiving _ _ _, receivingFrame_receiving _ _ _, receivingFrame_receiving _ _ _,
    receivingFrame_receiving _ _ _, by decide +kernel⟩

/-- Region 0 has accumulator 20: the trip threshold 20 latches, 21 does not. -/
theorem witness_SetThresholdsJudgesTheIntegrator :
    let s := live.setRegion 0 { live.region 0 with accumulator := 20, alertFlag := true }
    let ops (alert trip : Byte) : List Byte := [0, 0, alert, 0, trip]
    (∀ alert trip, (receivingFrame s 0x19 (ops alert trip)).receiving 0x19 (ops alert trip)) ∧
    (0 : Byte).toNat = (0 : Fin 32).val ∧ (s.region 0).state ≠ .free ∧
    (wordOf 0 20).toNat < (wordOf 0 21).toNat ∧ (wordOf 0 0) = 0 ∧ (s.region 0).cfg.watch = true ∧
    ((s.setRegion 0 { s.region 0 with cfg := RegionConfig.zero }).region 0).cfg.lock = false ∧
    (wordOf 0 20).toNat ≤ (s.region 0).accumulator.toNat ∧ ¬(wordOf 0 21).toNat ≤ (s.region 0).accumulator.toNat ∧
    (s.region 0).tripLatch = false ∧ s.monitor.state = .run ∧ s.depth < 64 :=
  ⟨fun _ _ => receivingFrame_receiving _ _ _, by decide +kernel⟩

/-! ### Witnesses: the Chain Table and the Drain Engine -/

/-- A buffer of 8 words right below the watched region, and at the top of memory. -/
theorem witness_LoadAndUnloadLink :
    let starved : State := { State.reset with drain := { State.reset.drain with state := .starved } }
    let s := withWatched (State.reset.setLink 1 (buffer 8 .ready)) .idle
    (∀ (u : State) (ops : List Byte), (receivingFrame u 0x20 ops).receiving 0x20 ops) ∧
    (∀ (u : State) (ops : List Byte), (receivingFrame u 0x28 ops).receiving 0x28 ops) ∧
    8 ≤ (8 : Byte).toNat ∧ (7 : Byte).toNat = (7 : Fin 8).val ∧
    ((draining 16 1 []).link 0).state = .active ∧ (State.reset.link 7).state ≠ .active ∧
    (value24 0x0F 0xFF 0xF8).toNat ≤ 0xFFFFF ∧ 8 ≤ (wordOf 0 8).toNat ∧
    (value24 0x0F 0xFF 0xF8).toNat + (wordOf 0 8).toNat - 1 ≤ 0xFFFFF ∧
    ¬(value24 0x0F 0xFF 0xF9).toNat + (wordOf 0 8).toNat - 1 ≤ 0xFFFFF ∧ ¬8 ≤ (wordOf 0 7).toNat ∧
    (s.region 0).cfg.shadowed ∧ (s.region 0).committed ∧
    (∀ r : Fin 32, (s.region r).committed → (s.region r).cfg.shadowed →
      (value24 0 0x6F 0xF8).toNat + 8 - 1 < (s.region r).cfg.base.toNat) ∧
    (∀ j : Fin 8, j ≠ 0 → (s.link j).liveBuffer → (s.link j).lastWord < (value24 0 0x6F 0xF8).toNat) ∧
    ¬(value24 0 0x6F 0xF9).toNat + 8 - 1 < (s.region 0).cfg.base.toNat ∧
    (starved.drain.state = .starved ∧ starved.drain.pointer = 0) ∧
    (State.reset.link 0).state = .empty ∧ (s.link 1).state = .ready :=
  ⟨fun _ _ => receivingFrame_receiving _ _ _, fun _ _ => receivingFrame_receiving _ _ _, by decide +kernel⟩

theorem witness_StartDrainNamesOrContinues :
    let loaded := State.reset.setLink 7 (buffer 8 .ready)
    let pointed := State.reset.setLink 0 (buffer 8 .ready)
    let aborting : State := { draining 16 1 [] with
      drain := { (draining 16 1 []).drain with state := .stopped, abortPending := true } }
    let stopped : State := { draining 16 1 [] with
      drain := { (draining 16 1 []).drain with state := .stopped } }
    (∀ (u : State) (ops : List Byte), (receivingFrame u 0x22 ops).receiving 0x22 ops) ∧
    (8 : Byte) ≠ 0xFF ∧ 8 ≤ (8 : Byte).toNat ∧ (7 : Byte).toNat = (7 : Fin 8).val ∧
    aborting.drain.abortPending = true ∧
    loaded.drain.abortPending = false ∧ loaded.drain.state = .stopped ∧ loaded.drain.current = none ∧
    (loaded.link 7).state = .ready ∧ (loaded.link 0).state ≠ .ready ∧
    (draining 16 1 []).drain.abortPending = false ∧ (draining 16 1 []).drain.state ≠ .stopped ∧
    stopped.drain.abortPending = false ∧ stopped.drain.state = .stopped ∧ stopped.drain.current.isSome ∧
    pointed.drain.state = .stopped ∧ pointed.drain.current = none ∧
    (pointed.link pointed.drain.pointer).state = .ready ∧
    (State.reset.link State.reset.drain.pointer).state ≠ .ready :=
  ⟨fun _ _ => receivingFrame_receiving _ _ _, by decide +kernel⟩

/-- The drain runs with a flush mark of the given origin. -/
def marked (origin : MarkOrigin) (remaining : Nat) : State :=
  { monitored (draining 16 1 [recorded]) (if origin = .snap then .freezing else .run) with
    drain := { (draining 16 1 [recorded]).drain with mark := some ⟨remaining, origin⟩ } }

theorem witness_StopDrainKeepsTheLink :
    (∀ u : State, (receivingFrame u 0x23 []).receiving 0x23 []) ∧
    State.reset.drain.state = .stopped ∧ (draining 16 1 []).drain.state = .running ∧
    (draining 16 1 []).drain.mark.any (fun m => m.origin = .snap) = false ∧
    (marked .snap 1).drain.state = .running ∧ (marked .snap 1).drain.mark.any (fun m => m.origin = .snap) = true :=
  ⟨fun _ => receivingFrame_receiving _ _ _, by decide +kernel⟩

theorem witness_FlushMarksTheDepth :
    let filled := (draining 16 1 []).setLink 0 { buffer 16 .active with fill := 1 }
    (∀ u : State, (receivingFrame u 0x24 []).receiving 0x24 []) ∧
    State.reset.drain.state ≠ .running ∧ (marked .flush 1).drain.state = .running ∧
    (marked .flush 1).drain.mark.isSome ∧ (draining 16 1 [recorded]).drain.mark = none ∧
    0 < (draining 16 1 [recorded]).depth ∧ (padding (draining 16 1 []) 0).drain.padInFlight.isSome ∧
    filled.drain.state = .running ∧ filled.drain.mark = none ∧ filled.depth = 0 ∧ filled.drain.padInFlight = none ∧
    filled.drain.current = some 0 ∧ 0 < (filled.link 0).fill ∧ ((draining 16 1 []).link 0).fill = 0 :=
  ⟨fun _ => receivingFrame_receiving _ _ _, by decide +kernel⟩

theorem witness_AbortDrainClosesTheLink :
    let flying := lastWord (marked .snap 1)
    let ending := (draining 16 1 []).setLink 0 (buffer 16 .active true)
    (∀ u : State, (receivingFrame u 0x25 []).receiving 0x25 []) ∧
    ({ flying with drain := { flying.drain with state := .stopped, abortPending := true } } : State).drain.abortPending =
      true ∧
    State.reset.drain.abortPending = false ∧
    ¬(State.reset.drain.state = .running ∨ State.reset.drain.state = .stopped ∧ State.reset.drain.current.isSome) ∧
    flying.drain.abortPending = false ∧ flying.drain.state = .running ∧ flying.drain.current = some 0 ∧
    flying.drain.recordInFlight.isSome ∧ flying.drain.mark.any (fun m => m.origin = .snap) = true ∧
    ending.drain.abortPending = false ∧ ending.drain.state = .running ∧ ending.drain.current = some 0 ∧
    ¬(ending.drain.recordInFlight.isSome ∨ ending.drain.padInFlight.isSome) ∧ (ending.link 0).endOfChain ∧
    ((draining 16 1 []).link 0).endOfChain = false ∧ ((draining 16 1 []).link 0).notify :=
  ⟨fun _ => receivingFrame_receiving _ _ _, by decide +kernel⟩

/-- A queue of 64 records with losses pending. -/
def fullQueue : State :=
  { State.reset with queue := { State.reset.queue with records := List.replicate 64 recorded, lossCount := 3 } }

theorem witness_PopAndDiscardFreeSlots :
    (receivingFrame fullQueue 0x27 []).receiving 0x27 [] ∧ fullQueue.port.selected = false ∧
    (draining 16 1 [recorded]).port.selected = false ∧ (draining 16 1 [recorded]).drain.state = .running ∧
    ¬(fullQueue.drain.state = .running ∨ fullQueue.drain.recordInFlight.isSome) ∧
    State.reset.queue.records = [] ∧ fullQueue.queue.records = recorded :: List.replicate 63 recorded ∧
    (List.replicate 63 recorded).length < 64 ∧ fullQueue.queue.lossCount ≠ 0 :=
  ⟨receivingFrame_receiving _ _ _, by decide +kernel⟩

/-! ### Witnesses: monitor states and lines -/

/-- STANDBY with region 0 HELD. -/
def held : State := withWatched State.reset .held

theorem witness_ArmStartsTheHeldRegions :
    (∀ u : State, (receivingFrame u 0x30 []).receiving 0x30 []) ∧ live.monitor.state ≠ .standby ∧
    ({ held with monitor := { held.monitor with snapHigh := true } } : State).monitor.snapHigh = true ∧
    held.monitor.state = .standby ∧ held.monitor.snapHigh = false ∧ (held.region 0).state = .held ∧
    held.prime.read = none ∧ held.standbySound ∧ held.allocSound ∧ held.shadowSound :=
  ⟨fun _ => receivingFrame_receiving _ _ _, by
    unfold State.standbySound State.allocSound State.shadowSound; decide +kernel⟩

theorem witness_DisarmHoldsTheRegions :
    let reading : State := { priming with
      prime := { served := some 0, read := some ⟨0, 0x07001, false⟩, claim := false } }
    (∀ u : State, (receivingFrame u 0x31 []).receiving 0x31 []) ∧ State.reset.monitor.state = .standby ∧
    live.monitor.state ≠ .standby ∧ live.prime.read = none ∧ (live.region 0).acting ∧
    live.extentOf 0 = some ⟨0, 4, 0⟩ ∧ reading.monitor.state ≠ .standby ∧
    reading.prime.read = some ⟨0, 0x07001, false⟩ ∧ (reading.region 0).state = .priming :=
  ⟨fun _ => receivingFrame_receiving _ _ _, by decide +kernel⟩

theorem witness_ResumeAndLineLevels :
    let frozen := monitored State.reset .frozen
    (∀ u : State, (receivingFrame u 0x32 []).receiving 0x32 []) ∧ State.reset.monitor.state ≠ .frozen ∧
    frozen.monitor.state = .frozen ∧ frozen.monitor.snapHigh = false ∧
    ({ frozen with monitor := { frozen.monitor with snapHigh := true } } : State).monitor.snapHigh = true ∧
    State.reset.monitor.snapHigh = false ∧ State.reset.monitor.state ≠ .run :=
  ⟨fun _ => receivingFrame_receiving _ _ _, by decide +kernel⟩

theorem witness_SnapEdgeStartsTheFreeze :
    let running := monitored (draining 16 1 [recorded]) .run
    let full := monitored fullQueue .run
    running.monitor.snapHigh = false ∧ running.monitor.state = .run ∧ running.depth < 64 ∧
    running.drain.state = .running ∧ full.monitor.snapHigh = false ∧ full.monitor.state = .run ∧
    64 ≤ full.depth ∧ full.drain.state ≠ .running := by decide +kernel

/-! ### Witnesses: the master's cycles and the memory port -/

theorem witness_MasterCyclesArriveAndEnd :
    live.path.cycle = none ∧ live.arb.owner = none ∧ live.arb.award = none ∧
    (granted live true 0x07000).path.cycle.isSome := by decide +kernel

theorem witness_ArbiterDecidesByPriority :
    let both (depth : Nat) (last : Background) : State :=
      { draining 16 1 (List.replicate depth recorded) with
        prime := { served := some 0, read := none, claim := true }
        arb := { owner := none, award := none, burstCount := 0, lastBackground := last } }
    let waiting : State := { granted live true 0x07000 with arb := State.reset.arb }
    (waiting.arb.owner = none ∧ waiting.arb.award = none ∧ waiting.masterClaims) ∧
    ((both 48 .drain).masterClaims = false ∧ (both 48 .drain).prime.claim ∧ (both 48 .drain).drainClaims ∧
      (both 48 .drain).queue.highMark ≤ (both 48 .drain).depth) ∧
    ((both 47 .drain).prime.claim ∧ (both 47 .drain).drainClaims ∧
      (both 47 .drain).depth < (both 47 .drain).queue.highMark) ∧
    (both 47 .prime).arb.lastBackground = .prime ∧
    ((both 0 .drain).prime.claim ∧ (both 0 .drain).drainClaims = false) ∧
    ({ both 1 .drain with prime := State.reset.prime } : State).drainClaims ∧
    (State.reset.masterClaims = false ∧ State.reset.prime.claim = false ∧ State.reset.drainClaims = false) ∧
    (draining 16 1 []).arb.owner.isSome ∧
    ((granted live true 0x07000).arb.award = some .master ∧ (granted live true 0x07000).claims .master) := by
  decide +kernel

theorem witness_ParityErrorsAreNoticed :
    live.port.parityCheck = true ∧ live.monitor.state ≠ .standby ∧ live.monitor.state = .run ∧
    parityError 2 0x0100 3 = true ∧ parityError 1 0x0100 3 = false ∧
    (monitored live .frozen).monitor.state ≠ .run := by decide +kernel

/-- Writes granted to a buffer, to a LOCK region, to a tripped region and to an untripped one. -/
theorem witness_WriteGrantRefusesOrForwards :
    let clashing := granted (live.setLink 0 (buffer 8 .ready)) true 0x02007
    let locking := granted live true 0x07004
    let tripped := granted (live.setRegion 0 { live.region 0 with tripLatch := true }) true 0x07003
    let passing := granted live true 0x07003
    (∀ s ∈ [clashing, locking, tripped, passing],
      s.arb.owner = none ∧ s.arb.award = some .master ∧ s.monitor.state = .run ∧
      (s.path.cycle.any fun c => c.phase == .waiting && c.write) = true) ∧
    (∃ i : Fin 8, ((clashing.link i).state = .ready ∨ (clashing.link i).state = .active) ∧
      (clashing.link i).base.toNat ≤ (0x02007 : Addr).toNat ∧ (0x02007 : Addr).toNat ≤ (clashing.link i).lastWord) ∧
    clashing.clashes 0x02008 = false ∧ clashing.path.clashReported = false ∧
    locking.clashes 0x07004 = false ∧ locking.actingRegion 0x07004 = some 1 ∧ (locking.region 1).cfg.lock ∧
    tripped.clashes 0x07003 = false ∧ tripped.actingRegion 0x07003 = some 0 ∧ (tripped.region 0).tripLatch ∧
    (tripped.region 0).refusalReported = false ∧
    passing.clashes 0x07003 = false ∧ passing.actingRegion 0x07003 = some 0 ∧
    (passing.region 0).cfg.lock = false ∧ (passing.region 0).tripLatch = false := by decide +kernel

theorem witness_WriteCompletionReachesTheRegion :
    let valid := forwarded live true 0x07003 0x0011
    let invalid := forwarded priming true 0x07003 0x0011
    let partly := forwarded priming true 0x07003 0x0011 1
    let outside := forwarded live true 0x07008 0x0011
    let plain := forwarded live true 0x07007 0x0011
    (∀ s ∈ [valid, invalid, partly, outside, plain],
      s.arb.owner = some .master ∧ (s.path.memCycle.any fun m => m.write) = true ∧
      (s.path.cycle.any fun c => c.phase == .forwarded) = true) ∧
    outside.actingRegion 0x07008 = none ∧ plain.actingRegion 0x07007 = some 1 ∧
    (plain.region 1).cfg.watch = false ∧ (plain.region 1).cfg.verify = false ∧
    valid.actingRegion 0x07003 = some 0 ∧ valid.extentOf 0 = some ⟨0, 4, 0⟩ ∧ (valid.region 0).cfg.watch = true ∧
    shadowGet valid.shadow (0 + (0x07003 - 0x07000)) = some 0x0010 ∧
    invalid.actingRegion 0x07003 = some 0 ∧ invalid.extentOf 0 = some ⟨0, 4, 0⟩ ∧
    shadowGet invalid.shadow (0 + (0x07003 - 0x07000)) = none := by decide +kernel

theorem witness_MasterReadReturnsAndVerifies :
    let reading := granted live false 0x07003
    let valid := forwarded live false 0x07003 0
    let invalid := forwarded priming false 0x07003 0
    (reading.arb.owner = none ∧ reading.arb.award = some .master ∧
      (reading.path.cycle.any fun c => c.phase == .waiting && !c.write) = true) ∧
    (∀ s ∈ [valid, invalid],
      s.arb.owner = some .master ∧ (s.path.memCycle.any fun m => !m.write && m.enables == 3) = true ∧
      s.actingRegion 0x07003 = some 0 ∧ s.extentOf 0 = some ⟨0, 4, 0⟩ ∧ (s.region 0).cfg.verify = true) ∧
    ¬(valid.port.parityCheck ∧ parityError 3 0x0011 3) ∧
    shadowGet valid.shadow 3 = some 0x0010 ∧ (0x0011 : Word) ≠ 0x0010 ∧ shadowGet invalid.shadow 3 = none ∧
    (live.actingRegion 0x07008 = none) := by decide +kernel

/-! ### Witnesses: detection, integrators, queue, priming -/

theorem witness_ChangesSettleOrAreRecorded :
    let c := (live.region 0).cfg
    let senses (was is : Word) : Prop := ∃ n : Fin 16, is.getLsbD n ≠ was.getLsbD n ∧
      (is.getLsbD n = true → c.riseMask.getLsbD n = true) ∧ (was.getLsbD n = true → c.fallMask.getLsbD n = true)
    let immediate := live.setRegion 0 { live.region 0 with cfg := { c with settleTime := 0 } }
    let one : List SettleEntry := [⟨0, 0x07000, 0x0010, 0x0011, 1⟩]
    (immediate.region 0).cfg.settleTime = 0 ∧ c.settleTime ≠ 0 ∧
    (∃ n : Fin 16, (0x0011 : Word).getLsbD n ≠ (0x0010 : Word).getLsbD n ∧
      ((0x0011 : Word).getLsbD n = true → c.riseMask.getLsbD n = true) ∧
      ((0x0010 : Word).getLsbD n = true → c.fallMask.getLsbD n = true)) ∧
    ¬senses 0x0010 0x0100 ∧ (∀ e ∈ live.settle, e.addr ≠ 0x07000) ∧ live.settle.length < 16 ∧
    16 ≤ (List.replicate 16 (⟨0, 0x07001, 0x0010, 0x0011, 1⟩ : SettleEntry)).length ∧
    ({ live with settle := one } : State).settle = [] ++ ⟨0, 0x07000, 0x0010, 0x0011, 1⟩ :: [] ∧
    senses 0x0010 0x0013 := by decide +kernel

/-- Accumulator 5 and weight 15 reach the trip threshold 20. -/
theorem witness_IntegratorAlertsAndTrips :
    let s := live.setRegion 0 { live.region 0 with accumulator := 5 }
    let x := s.region 0
    (live.region 1).cfg.tripThreshold = 0 ∧ x.cfg.tripThreshold ≠ 0 ∧
    (x.cfg.alertThreshold ≠ 0 ∧ x.cfg.alertThreshold.toNat ≤ min 65535 (x.accumulator.toNat + x.cfg.weight.toNat) ∧
      x.alertFlag = false) ∧
    x.cfg.tripThreshold.toNat = min 65535 (x.accumulator.toNat + x.cfg.weight.toNat) ∧ x.tripLatch = false ∧
    s.monitor.state = .run := by decide +kernel

theorem witness_QueueTakesOrLosesRecords :
    let s : State := { State.reset with queue := { State.reset.queue with records := List.replicate 63 recorded
                                                                          lossCount := 3, highMark := 64 } }
    s.depth < 64 ∧ s.depth + 1 = s.queue.highMark ∧ State.reset.depth + 1 ≠ State.reset.queue.highMark ∧
    64 ≤ fullQueue.depth ∧ (s.queue.lossCount ≠ 0 ∧ s.depth < 64) ∧
    ¬(fullQueue.queue.lossCount ≠ 0 ∧ fullQueue.depth < 64) := by decide +kernel

theorem witness_CheckWordMakesRecordsIntact :
    exec .lossPlacement fullQueue = .next (after .lossPlacement fullQueue) ∧
    recorded.words[7]? ≠ some 0 ∧ recorded.words.length = 8 ∧
    (draining 8 1 [recorded]).drain.current = some 0 ∧ (draining 8 1 [recorded]).queue.records = [recorded] :=
  ⟨rfl, by decide +kernel⟩

theorem witness_PrimingReadsInvalidWords :
    let rescan := priming.setRegion 0 { priming.region 0 with primeCursor := 4 }
    let done : State := { rescan with shadow := live.shadow }
    let completing (p : PrimeRead) : State := { priming with
      prime := { served := some 0, read := some p, claim := false }
      path := { priming.path with memCycle := some ⟨false, p.addr, 3, 0, 0⟩ }
      arb := { priming.arb with owner := some .prime, award := none } }
    (∀ s ∈ [priming, rescan, done], s.arb.owner = none ∧ s.arb.award = some .prime ∧ s.prime.served = some 0 ∧
      s.prime.read = none ∧ (s.region 0).state = .priming ∧ s.extentOf 0 = some ⟨0, 4, 0⟩) ∧
    ((priming.region 0).primeCursor ≤ 1 ∧ shadowGet priming.shadow (0 + 0) ≠ none ∧
      shadowGet priming.shadow (0 + 1) = none) ∧
    (rescan.region 0).primeCursor = 4 ∧ shadowGet rescan.shadow (0 + 1) = none ∧
    (∀ k ∈ List.range 4, shadowGet done.shadow (0 + k) ≠ none) ∧
    (∀ i : Fin 32, i ≠ 0 → (done.region i).state ≠ .priming) ∧
    ((completing ⟨0, 0x07003, false⟩).prime.read = some ⟨0, 0x07003, false⟩ ∧
      (completing ⟨0, 0x07003, false⟩).path.memCycle = some ⟨false, 0x07003, 3, 0, 0⟩ ∧
      (completing ⟨0, 0x07003, false⟩).arb.owner = some .prime ∧
      shadowGet (completing ⟨0, 0x07003, false⟩).shadow (0 + (0x07003 - 0x07000)) = none) ∧
    (completing ⟨0, 0x07003, true⟩).prime.read = some ⟨0, 0x07003, true⟩ ∧
    (∀ i : Fin 32, i ≠ 0 → (priming.region i).state ≠ .priming) ∧
    ((after (.primeReadCompletion 5 0) (completing ⟨0, 0x07003, false⟩)).region 0).state = .priming ∧
    ((after (.primeReadCompletion 5 3) { completing ⟨0, 0x07003, false⟩ with
      shadow := [(0, 1), (1, 1), (2, 1)] }).region 0).state = .live := by decide +kernel

/-! ### Witnesses: writing records, time -/

theorem witness_DrainBurstWritesTheHeadRecord :
    let s := draining 8 1 [recorded]
    let free : State := { s with
      path := State.reset.path
      arb := { State.reset.arb with award := some .drain } }
    s.drain.current = some 0 ∧ s.queue.records = recorded :: [] ∧
    (free.arb.owner = none ∧ free.arb.award = some .drain ∧ free.drain.current = some 0) ∧
    (({ s with drain := { s.drain with recordInFlight := some 6 } } : State).drain.recordInFlight = some 6 ∧
      s.arb.owner = some .drain ∧ s.path.memCycle.isSome) ∧
    (s.drain.recordInFlight = none ∧ s.drain.padInFlight = none) := by decide +kernel

/-- Buffers of 8, 9, 15 and 16 words: the record fills the first, leaves 1 and 7 pads, and leaves room for one more. -/
theorem witness_RecordWrittenLeavesTheQueue :
    let exact := lastWord (draining 8 2 [recorded])
    let one := lastWord (draining 9 2 [recorded])
    let seven := lastWord (draining 15 2 [recorded])
    let room := lastWord (draining 16 2 [recorded, recorded])
    let last := lastWord (draining 16 1 [recorded, recorded])
    let due := lastWord (marked .snap 1)
    let aborting : State := { exact with drain := { exact.drain with state := .stopped, abortPending := true } }
    (∀ s ∈ [exact, one, seven, room, last, due, aborting], s.arb.owner = some .drain ∧ s.path.memCycle.isSome ∧
      s.drain.recordInFlight = some 7 ∧ s.drain.padInFlight = none ∧ s.drain.current = some 0 ∧
      s.queue.records.head? = some recorded ∧ s.queue.records.tail.length < 64) ∧
    aborting.drain.abortPending = true ∧ exact.drain.abortPending = false ∧
    (exact.link 0).capacity.toNat - ((exact.link 0).fill + 1) * 8 = 0 ∧
    (one.link 0).capacity.toNat - ((one.link 0).fill + 1) * 8 = 1 ∧
    (seven.link 0).capacity.toNat - ((seven.link 0).fill + 1) * 8 = 7 ∧
    (room.link 0).capacity.toNat - ((room.link 0).fill + 1) * 8 = 8 ∧
    (room.arb.burstCount - 1 ≠ 0 ∧ room.queue.records.tail ≠ [] ∧ room.drain.state = .running) ∧
    last.arb.burstCount - 1 = 0 ∧
    (due.drain.mark.map fun m => m.remaining - 1) = some 0 ∧ (due.link 0).capacity = 16 := by decide +kernel

theorem witness_PadsAndDrainEventsCloseLinks :
    let first := padding ((draining 10 0 []).setLink 0 { buffer 10 .active with fill := 1 }) 0
    let final := padding ((draining 10 0 []).setLink 0 { buffer 10 .active with fill := 1 }) 1
    let aborting : State := { final with drain := { final.drain with state := .stopped, abortPending := true } }
    let starving : State := { monitored final .freezing with drain := { final.drain with mark := some ⟨1, .snap⟩ } }
    let ended : State := { draining 16 0 [] with path := State.reset.path }
    let alone : State := { draining 16 0 [] with
      drain := { (draining 16 0 []).drain with state := .stopped, abortPending := true } }
    (∀ s ∈ [first, final, aborting], s.arb.owner = some .drain ∧ s.path.memCycle.isSome ∧
      s.drain.recordInFlight = none ∧ s.drain.padInFlight.isSome ∧ s.drain.current = some 0 ∧
      (s.link 0).capacity.toNat - (s.link 0).fill * 8 = 2) ∧
    final.drain.abortPending = false ∧ aborting.drain.abortPending = true ∧
    (ended.arb.owner = some .drain ∧ ended.path.memCycle = none ∧ ended.drain.recordInFlight = none ∧
      ended.drain.padInFlight = none) ∧
    ((marked .snap 0).drain.current = some 0 ∧ (marked .snap 0).drain.mark = some ⟨0, .snap⟩ ∧
      (marked .snap 0).drain.recordInFlight = none ∧ (marked .snap 0).drain.padInFlight = none) ∧
    (marked .flush 0).drain.mark = some ⟨0, .flush⟩ ∧
    (starving.link 0).endOfChain = false ∧ (starving.link (starving.link 0).next).state ≠ .ready ∧
    ((after .padWriteCompletion starving).monitor.state = .frozen ∧
      (after .padWriteCompletion starving).notices.completeness = .incomplete) ∧
    (alone.drain.current = some 0 ∧ alone.drain.abortPending = true ∧ alone.drain.recordInFlight = none ∧
      alone.drain.padInFlight = none) := by decide +kernel

theorem witness_TicksTimeDecayAndSettling :
    let s : State := { live with
      settle := [⟨0, 0x07000, 0x0010, 0x0011, 2⟩, ⟨0, 0x07001, 0x0010, 0x0011, 1⟩]
      time := ⟨4, 3, 0xFFFF, 3, 1, 1⟩ }
    let standing : State := { s with
      settle := [⟨0, 0x07000, 0x0010, 0x0011, 2⟩, ⟨0, 0x07001, 0x0010, 0x0011, 0⟩]
      time := ⟨4, 3, 0, 3, 0, 1⟩ }
    s.time.count + 1 = s.time.divisor ∧ live.time.count + 1 ≠ live.time.divisor ∧ s.time.countdown - 1 = 0 ∧
    s.monitor.state = .run ∧ standing.time.countdown = 0 ∧ s.time.countdown ≠ 0 ∧
    standing.settle = [⟨0, 0x07000, 0x0010, 0x0011, 2⟩] ++ ⟨0, 0x07001, 0x0010, 0x0011, 0⟩ :: [] ∧
    (∀ e ∈ ([⟨0, 0x07000, 0x0010, 0x0011, 2⟩] : List SettleEntry), e.remaining ≠ 0 ∧ e.addr ≠ 0x07001) := by
  decide +kernel

/-! ### Witnesses: what every step keeps -/

/-- One step that changes something, from a state with a command waiting. -/
def waiting (s : State) (c : Instr) : State := { s with pending := [c] }

theorem waiting_steps (s : State) (c : Instr) (h : s.pending = []) (t : State) (ht : exec c s = .next t) :
    step (waiting s c) = .next t := by
  have : ({ waiting s c with pending := [] } : State) = s := by rw [waiting, ← h]
  simp only [step, waiting] at this ⊢
  rw [this, ht]

/-- A full queue with losses pending is sound, and DISCARD_QUEUE is run on it. -/
theorem witness_StepsKeepQueueRangesNoticesAndFreeze :
    (∃ t, step (waiting fullQueue (.discardQueue (.whole 0))) = .next t ∧ t ≠ fullQueue) ∧
    (waiting fullQueue (.discardQueue (.whole 0))).queueSound ∧ (waiting fullQueue (.discardQueue (.whole 0))).rangesSound ∧
    (waiting fullQueue (.discardQueue (.whole 0))).portSound ∧ (waiting fullQueue (.discardQueue (.whole 0))).noticesSound ∧
    (waiting (marked .snap 1) (.stopDrain (.whole 0))).drain.mark = some ⟨1, .snap⟩ ∧
    (waiting (marked .snap 1) (.stopDrain (.whole 0))).monitor.state = .freezing := by
  refine ⟨⟨_, waiting_steps _ _ rfl _ rfl, by decide +kernel⟩, ?_⟩
  unfold State.queueSound State.rangesSound State.portSound State.noticesSound
  decide +kernel

theorem freezeSound_marked : (marked .snap 1).freezeSound := by
  refine ⟨⟨fun _ => ⟨_, rfl, rfl⟩, fun _ => by decide +kernel⟩, by decide +kernel, by decide +kernel⟩

/-- The committed regions of `live` are the adjacent regions 0 and 1. -/
theorem live_committed : ∀ i : Fin 32, (live.region i).committed → i = 0 ∨ i = 1 := by decide +kernel

theorem live_regionsApart : live.regionsApart := by
  intro i j a hi hj hia hja
  have h0 : ∀ x : Addr, (live.region 0).cfg.contains x = true → x.toNat ≤ 0x07003 := by
    intro x hx
    have : (decide (0x07000 ≤ x.toNat) && decide (x.toNat ≤ 0x07003)) = true := hx
    simp only [Bool.and_eq_true, decide_eq_true_eq] at this
    exact this.2
  have h1 : ∀ x : Addr, (live.region 1).cfg.contains x = true → 0x07004 ≤ x.toNat := by
    intro x hx
    have : (decide (0x07004 ≤ x.toNat) && decide (x.toNat ≤ 0x07007)) = true := hx
    simp only [Bool.and_eq_true, decide_eq_true_eq] at this
    exact this.1
  rcases live_committed i hi with rfl | rfl <;> rcases live_committed j hj with rfl | rfl
  · rfl
  · exact absurd (h0 a hia) (by have := h1 a hja; omega)
  · exact absurd (h0 a hja) (by have := h1 a hia; omega)
  · rfl

theorem live_buffersApart : live.buffersApart := by
  intro i a hi
  exact absurd hi (by revert i; decide +kernel)

theorem witness_StepsKeepRegionsAndBuffersApart :
    (∃ t, step (waiting live (.disarm (.whole 0))) = .next t) ∧ live.regionsApart ∧ live.buffersApart :=
  ⟨⟨_, waiting_steps _ _ rfl _ rfl⟩, live_regionsApart, live_buffersApart⟩

theorem witness_StepsKeepIntegratorsSound :
    let s := live.setRegion 0 { live.region 0 with accumulator := 10, alertFlag := true }
    (∃ t, step (waiting s .baseTick) = .next t) ∧ (waiting s .baseTick).integratorsSound := by
  refine ⟨⟨_, waiting_steps _ _ rfl _ rfl⟩, ?_⟩
  unfold State.integratorsSound
  decide +kernel

theorem witness_StepsKeepSettleTableSound :
    let s : State := { live with
      settle := [⟨0, 0x07000, 0x0010, 0x0011, 3⟩, ⟨0, 0x07003, 0x0010, 0x0011, 1⟩]
      shadow := [(0, 0x0011), (1, 0x0010), (2, 0x0010), (3, 0x0011)] }
    (∃ t, step (waiting s .baseTick) = .next t) ∧ (waiting s .baseTick).regionsApart ∧
      (waiting s .baseTick).allocSound ∧ (waiting s .baseTick).settleSound := by
  refine ⟨⟨_, waiting_steps _ _ rfl _ rfl⟩, live_regionsApart, ?_, ?_⟩
  · unfold State.allocSound; decide +kernel
  · unfold State.settleSound; decide +kernel

theorem witness_StepsKeepChainAndDrainSound :
    let s := waiting (lastWord (draining 8 1 [recorded])) .recordWriteCompletion
    (∃ t, step s = .next t) ∧ s.linksSound ∧ s.drainSound := by
  refine ⟨⟨_, waiting_steps _ _ rfl _ rfl⟩, ?_, ?_⟩
  · unfold State.linksSound
    decide +kernel
  · refine ⟨by decide +kernel, by decide +kernel, by decide +kernel, by decide +kernel, by decide +kernel,
      by decide +kernel, ?_⟩
    intro f hf
    cases hf

theorem witness_StepsKeepArbiterPrimeAndShadowSound :
    let s := waiting (priming.setRegion 2 (Region.fresh .live locked)) .primeGrant
    (∃ t, step s = .next t) ∧ s.arbiterSound ∧ s.primeSound ∧ s.standbySound ∧ s.allocSound ∧ s.shadowSound := by
  refine ⟨⟨_, waiting_steps _ _ rfl _ rfl⟩, ?_, ?_, ?_, ?_, ?_⟩
  · refine ⟨?_, by decide +kernel⟩
    intro c hc
    have : some Claimant.prime = some c := hc
    cases this
    decide +kernel
  · refine ⟨fun _ => ⟨rfl, 0, rfl, by decide +kernel⟩, ?_⟩
    intro p hp
    cases hp
  · unfold State.standbySound; decide +kernel
  · unfold State.allocSound; decide +kernel
  · unfold State.shadowSound; decide +kernel

end Sys2Proof.Tests
end

section
/-! The two step statements that fail. Each speaks of every state that meets its own invariants, and the invariant
that would rule the counterexample out (a served region is in PRIMING; a SNAP flush mark stands only in FREEZING)
is not among them. -/

namespace Sys2Proof.Machine

/-! ### Reading one record -/

/-- A record read after another, or the same, has been replaced. -/
theorem State.region_setRegion (s : State) (r q : Fin 32) (x : Region) :
    (s.setRegion r x).region q = if r = q then x else s.region q := by
  simp

theorem State.region_modRegion (s : State) (r q : Fin 32) (f : Region → Region) :
    (s.modRegion r f).region q = if r = q then f (s.region r) else s.region q :=
  s.region_setRegion r q _

/-- Every record is FREE after power-on (R24). -/
theorem State.reset_region (r : Fin 32) : State.reset.region r = Region.freed := by
  simp [State.reset]

/-! ### Regions apart -/

/-- The Prime Engine serves region 0, which is FREE, and its grant is due; region 1 is committed and IDLE. Both
records hold the range from 0 to 0. -/
def State.servingFree : State :=
  { State.reset.setRegion 1 (Region.fresh .idle .zero) with
    prime := { served := some 0, read := none, claim := true }
    arb := { State.reset.arb with award := some .prime }
    pending := [.primeGrant] }

/-- Only region 1 is committed before the grant. -/
theorem State.servingFree_committed {r : Fin 32} (h : (State.servingFree.region r).committed = true) : r = 1 := by
  by_contra hne
  have hfree : State.servingFree.region r = Region.freed :=
    (State.region_setRegion State.reset 1 r _).trans ((if_neg (Ne.symm hne)).trans (State.reset_region r))
  rw [hfree] at h
  cases h

theorem State.servingFree_regionsApart : State.servingFree.regionsApart := by
  intro i j a hi hj _ _
  rw [State.servingFree_committed hi, State.servingFree_committed hj]

/-- Refutes O56: PRIME_GRANT finds no invalid word in the served region and brings it to LIVE, though it was FREE; the
word at address 0 then lies in the committed regions 0 and 1. -/
theorem not_stepsKeepRegionsAndBuffersApart : ¬ Obligations.StepsKeepRegionsAndBuffersApart := by
  intro ⟨hstep, _, _⟩
  obtain ⟨t, ht, hcommitted, hcontains⟩ : ∃ t, step State.servingFree = .next t ∧
      ((t.region 0).committed = true ∧ (t.region 1).committed = true) ∧
      ((t.region 0).cfg.contains 0 = true ∧ (t.region 1).cfg.contains 0 = true) :=
    ⟨_, rfl, by decide +kernel, by decide +kernel⟩
  have hapart := hstep _ t ht State.servingFree_regionsApart
  exact absurd (hapart 0 1 0 hcommitted.1 hcommitted.2 hcontains.1 hcontains.2) (by decide)

/-! ### Standby and the flush mark -/

/-- In STANDBY with region 0 HELD, a SNAP flush mark stands at 0 while the drain runs without a link. -/
def State.markedStandby : State :=
  { State.reset.setRegion 0 (Region.fresh .held .zero) with
    drain := { State.reset.drain with state := .running, mark := some ⟨0, .snap⟩ }
    pending := [.flushComplete] }

theorem State.markedStandby_region (r : Fin 32) :
    State.markedStandby.region r = if 0 = r then Region.fresh .held .zero else Region.freed :=
  (State.region_setRegion State.reset 0 r _).trans (by rw [State.reset_region])

theorem State.markedStandby_arbiterSound : State.markedStandby.arbiterSound := by
  refine ⟨fun c hc => ?_, fun _ _ => rfl⟩
  cases hc

theorem State.markedStandby_primeSound : State.markedStandby.primeSound := by
  refine ⟨fun hc => ?_, fun p hp => ?_⟩
  · cases hc
  · cases hp

theorem State.markedStandby_standbySound : State.markedStandby.standbySound := by
  refine ⟨fun _ r => ?_, fun h => absurd rfl h⟩
  rw [State.markedStandby_region]
  split <;> rfl

theorem State.markedStandby_allocSound : State.markedStandby.allocSound := by
  refine ⟨.nil, fun _ he => (List.not_mem_nil he).elim, fun r _ => ?_⟩
  rw [State.markedStandby_region]
  split <;> exact ⟨Nat.le_refl _, fun h => nomatch h⟩

theorem State.markedStandby_shadowSound : State.markedStandby.shadowSound :=
  ⟨rfl, fun _ hw => (List.not_mem_nil hw).elim, fun _ he => (List.not_mem_nil he).elim⟩

/-- Refutes O60: FLUSH_COMPLETE completes the SNAP mark, which makes the monitor FROZEN out of STANDBY while region 0
is HELD. The statement does not ask that a SNAP mark stands only in FREEZING (State.freezeSound). -/
theorem not_stepsKeepArbiterPrimeAndShadowSound : ¬ Obligations.StepsKeepArbiterPrimeAndShadowSound := by
  intro hstep
  obtain ⟨t, ht, hmonitor, hheld⟩ : ∃ t, step State.markedStandby = .next t ∧
      t.monitor.state = .frozen ∧ (t.region 0).state = .held :=
    ⟨_, rfl, by decide +kernel, by decide +kernel⟩
  obtain ⟨_, _, hstandby, _, _⟩ := hstep _ t ht State.markedStandby_arbiterSound State.markedStandby_primeSound
    State.markedStandby_standbySound State.markedStandby_allocSound State.markedStandby_shadowSound
  exact hstandby.2 (by simp [hmonitor]) 0 hheld

end Sys2Proof.Machine
end

section
/-! What a frame does to the block: the parts of a frame touch the port alone, and the rise of CFG_CS# is the effect of
its command. -/

namespace Sys2Proof.Machine

/-- A frame, or a part of one, either changes the port alone or is the effect of its command between two changes of the
port. -/
theorem runFrame_cases (spec : FrameSpec) (ops : List Byte) (act : FrameAct) (s : State) :
    (∃ p, runFrame spec ops act s = { s with port := p }) ∨
    ∃ f p p', runFrame spec ops act s = { (spec.effect f { s with port := p }).1 with port := p' } := by
  have serial : ∀ {t : State}, SerialOnly s t → ∃ p, t = { s with port := p } := fun h => ⟨_, h⟩
  have closed : ∀ {t : State}, SerialOnly s t → (∃ p, closeFrame spec t = { s with port := p }) ∨
      ∃ f p p', closeFrame spec t = { (spec.effect f { s with port := p }).1 with port := p' } := by
    intro t ht
    obtain ⟨p, rfl⟩ := serial ht
    unfold closeFrame
    split
    · exact .inl ⟨_, rfl⟩
    · split
      · exact .inl ⟨_, rfl⟩
      · split
        · exact .inr ⟨_, p, _, rfl⟩
        · exact .inl ⟨_, rfl⟩
  cases act with
  | whole extra =>
    simp only [runFrame]
    split
    · exact .inl ⟨s.port, rfl⟩
    · exact closed ((openFrame_serialOnly s).trans (exchangeBytes_serialOnly spec ops _ _))
  | start =>
    simp only [runFrame]
    split
    · exact .inl ⟨s.port, rfl⟩
    · exact .inl ⟨_, rfl⟩
  | clockRises => exact .inl (serial (riseClock_serialOnly spec ops s))
  | clockFalls => exact .inl (serial (fallClock_serialOnly spec s))
  | byte => exact .inl (serial (exchangeByte_serialOnly spec ops s))
  | finish => exact closed (SerialOnly.refl s)

end Sys2Proof.Machine
end

section
/-! The Settle Table (R70): what an entry rests on, and that every command keeps the table. -/

namespace Sys2Proof.Machine

/-! ### Extents and shadow indices -/

theorem State.extentOf_mem {s : State} {r : Fin 32} {e : Extent} (h : s.extentOf r = some e) :
    e ∈ s.alloc ∧ e.region = r :=
  ⟨List.mem_of_find?_eq_some h, by simpa using List.find?_some h⟩

/-- Two extents share no index. -/
def Extent.apart (e e' : Extent) : Prop := e.first + e.length ≤ e'.first ∨ e'.first + e'.length ≤ e.first

/-- The extents of two regions share no index (R49). -/
theorem State.allocSound.disjoint {s : State} (h : s.allocSound) {e e' : Extent} (he : e ∈ s.alloc)
    (he' : e' ∈ s.alloc) (hne : e.region ≠ e'.region) :
    e.apart e' := by
  have hsymm : Std.Symm Extent.apart := ⟨fun _ _ => Or.symm⟩
  have hpair : s.alloc.Pairwise Extent.apart := h.1.imp fun hxy => .inl hxy.1
  exact hpair.forall he he' fun heq => hne (congrArg Extent.region heq)

/-- A word address of a committed region maps into the region's extent (R48). -/
theorem State.allocSound.shadowIndex_mem {s : State} (h : s.allocSound) {r : Fin 32} {a : Addr} {k : Nat}
    (ha : (s.region r).cfg.contains a = true) (hk : s.shadowIndex r a = some k) :
    ∃ e, s.extentOf r = some e ∧ k = e.first + (a.toNat - (s.region r).cfg.base.toNat) ∧
      k < e.first + e.length := by
  obtain ⟨e, he, rfl⟩ := Option.map_eq_some_iff.1 hk
  obtain ⟨hmem, rfl⟩ := State.extentOf_mem he
  obtain ⟨_, _, _, hlength⟩ := h.2.1 e hmem
  have hin : (s.region e.region).cfg.base.toNat ≤ a.toNat ∧ a.toNat ≤ (s.region e.region).cfg.limit.toNat := by
    simpa [RegionConfig.contains] using ha
  refine ⟨e, he, rfl, ?_⟩
  rw [hlength, RegionConfig.size]
  omega

/-- Two word addresses, each contained in its region, that map to one shadow index are one address of one region. -/
theorem State.allocSound.shadowIndex_inj {s : State} (h : s.allocSound) {q r : Fin 32} {a b : Addr} {k : Nat}
    (hb : (s.region q).cfg.contains b = true) (ha : (s.region r).cfg.contains a = true)
    (hkb : s.shadowIndex q b = some k) (hka : s.shadowIndex r a = some k) : b = a := by
  obtain ⟨e, he, hke, hlte⟩ := h.shadowIndex_mem hb hkb
  obtain ⟨e', he', hke', hlte'⟩ := h.shadowIndex_mem ha hka
  obtain ⟨hmem, hreg⟩ := State.extentOf_mem he
  obtain ⟨hmem', hreg'⟩ := State.extentOf_mem he'
  by_cases hqr : q = r
  · subst hqr
    obtain rfl : e = e' := Option.some.inj (he.symm.trans he')
    simp only [RegionConfig.contains, Bool.and_eq_true, decide_eq_true_eq] at ha hb
    exact BitVec.eq_of_toNat_eq (by omega)
  · have hd := h.disjoint hmem hmem' (by rwa [hreg, hreg'])
    unfold Extent.apart at hd
    omega

/-! ### The region an address acts on -/

theorem Region.committed_of_acting {x : Region} (h : x.acting = true) : x.committed = true := by
  cases hs : x.state <;> simp [Region.acting, Region.committed, hs] at h ⊢

/-- The lookup's answer is a region in PRIMING or LIVE that contains the address (R17, R18). -/
theorem State.actingRegion_spec {s : State} {a : Addr} {r : Fin 32} (h : s.actingRegion a = some r) :
    (s.region r).acting = true ∧ (s.region r).cfg.contains a = true := by
  unfold State.actingRegion at h
  split at h
  · cases h
  · next q hq =>
    split at h
    · next hact =>
      cases h
      have hfound := List.find?_some hq
      exact ⟨hact, (Bool.and_eq_true_iff.1 hfound).2⟩
    · cases h

/-! ### What an entry rests on -/

/-- The facts of R70 about one entry. -/
def State.entrySound (s : State) (e : SettleEntry) : Prop :=
  let x := s.region e.region
  x.acting ∧ x.cfg.watch ∧ x.cfg.contains e.addr ∧ sensed x.cfg e.confirmed e.candidate ∧
    1 ≤ e.remaining ∧ e.remaining ≤ x.cfg.settleTime.toNat ∧
    (s.shadowIndex e.region e.addr).bind (shadowGet s.shadow) = some e.candidate

theorem State.entrySound.acting {s : State} {e : SettleEntry} (h : s.entrySound e) :
    (s.region e.region).acting = true := h.1

theorem State.entrySound.contains {s : State} {e : SettleEntry} (h : s.entrySound e) :
    (s.region e.region).cfg.contains e.addr = true := h.2.2.1

/-- The shadow word of an entry is valid and holds the candidate. -/
theorem State.entrySound.word {s : State} {e : SettleEntry} (h : s.entrySound e) :
    ∃ k, s.shadowIndex e.region e.addr = some k ∧ shadowGet s.shadow k = some e.candidate := by
  obtain ⟨_, _, _, _, _, _, hshadow⟩ := h
  exact Option.bind_eq_some_iff.1 hshadow

theorem State.settleSound_iff (s : State) :
    s.settleSound ↔ s.settle.length ≤ 16 ∧ (s.settle.map SettleEntry.addr).Nodup ∧
      ∀ e ∈ s.settle, s.entrySound e := Iff.rfl

/-- The two configurations agree in the range, WATCH, the masks and the settle time. -/
def RegionConfig.sensesAs (c c' : RegionConfig) : Prop :=
  c.base = c'.base ∧ c.limit = c'.limit ∧ c.watch = c'.watch ∧ c.riseMask = c'.riseMask ∧
    c.fallMask = c'.fallMask ∧ c.settleTime = c'.settleTime

theorem RegionConfig.sensesAs.refl (c : RegionConfig) : c.sensesAs c := ⟨rfl, rfl, rfl, rfl, rfl, rfl⟩

theorem RegionConfig.sensesAs.of_eq {c c' : RegionConfig} (h : c = c') : c.sensesAs c' := h ▸ .refl c

/-- Region `q` acts in `t` as it does in `s`: it still acts, senses as before, and keeps its extent. -/
def State.ActsAlike (s t : State) (q : Fin 32) : Prop :=
  (t.region q).acting = true ∧ (t.region q).cfg.sensesAs (s.region q).cfg ∧ t.extentOf q = s.extentOf q

/-- An entry stays sound where its region acts as before and its shadow word holds what it held. -/
theorem State.entrySound.transfer {s t : State} {e : SettleEntry} (h : s.entrySound e)
    (halike : s.ActsAlike t e.region)
    (hword : ∀ k, s.shadowIndex e.region e.addr = some k → shadowGet t.shadow k = shadowGet s.shadow k) :
    t.entrySound e := by
  obtain ⟨_, hwatch, hcontains, hsensed, hlow, hhigh, hshadow⟩ := h
  obtain ⟨hact, ⟨hbase, hlimit, hw, hrise, hfall, htime⟩, hextent⟩ := halike
  obtain ⟨k, hk, hcand⟩ := Option.bind_eq_some_iff.1 hshadow
  have hindex : t.shadowIndex e.region e.addr = some k := by
    rw [← hk, State.shadowIndex, State.shadowIndex, hextent, hbase]
  refine ⟨hact, hw ▸ hwatch, ?_, ?_, hlow, htime ▸ hhigh, ?_⟩
  · rw [RegionConfig.contains, hbase, hlimit]; exact hcontains
  · rw [sensed, sensedBits, hrise, hfall]; exact hsensed
  · rw [hindex, Option.bind_some, hword k hk, hcand]

/-- A table that lost entries, each of the rest still sound, is sound. -/
theorem State.settleSound.of_sublist {s t : State} (h : s.settleSound) (hsub : t.settle.Sublist s.settle)
    (hentry : ∀ e ∈ t.settle, s.entrySound e → t.entrySound e) : t.settleSound := by
  obtain ⟨hlength, hnodup, hall⟩ := h
  exact ⟨hsub.length_le.trans hlength, hnodup.sublist (hsub.map _),
    fun e he => hentry e he (hall e (hsub.subset he))⟩

/-- An empty Settle Table is sound. -/
theorem State.settleSound_of_nil {s : State} (h : s.settle = []) : s.settleSound := by
  rw [State.settleSound_iff, h]
  exact ⟨Nat.zero_le _, List.nodup_nil, fun _ he => (List.not_mem_nil he).elim⟩

/-- The Settle Table and the shadow words are the same, and every acting region acts as before. -/
def State.SettledAlike (s t : State) : Prop :=
  t.settle = s.settle ∧ t.shadow = s.shadow ∧ ∀ q, (s.region q).acting = true → s.ActsAlike t q

theorem State.SettledAlike.settleSound {s t : State} (h : s.SettledAlike t) (hs : s.settleSound) :
    t.settleSound := by
  obtain ⟨hsettle, hshadow, hregions⟩ := h
  exact hs.of_sublist (hsettle ▸ List.Sublist.refl _) fun e _ he =>
    he.transfer (hregions e.region he.acting) fun _ _ => by rw [hshadow]

/-- The Settle Table, the Shadow Store with its allocation, and state and configuration of every record are the same. -/
def State.SameLayout (s t : State) : Prop :=
  t.settle = s.settle ∧ t.shadow = s.shadow ∧ t.alloc = s.alloc ∧
    ∀ q, (t.regions.get q).state = (s.regions.get q).state ∧ (t.regions.get q).cfg = (s.regions.get q).cfg

/-- A region whose state and configuration are the same, with the same allocation, acts as before. -/
theorem State.ActsAlike.of_layout {s t : State} {q : Fin 32} (hact : (s.region q).acting = true)
    (halloc : t.alloc = s.alloc)
    (hlayout : (t.regions.get q).state = (s.regions.get q).state ∧
      (t.regions.get q).cfg = (s.regions.get q).cfg) : s.ActsAlike t q := by
  obtain ⟨hstate, hcfg⟩ := hlayout
  refine ⟨?_, .of_eq hcfg, by rw [State.extentOf, halloc, State.extentOf]⟩
  rw [Region.acting, State.region, hstate]; exact hact

theorem State.SameLayout.settledAlike {s t : State} (h : s.SameLayout t) : s.SettledAlike t := by
  obtain ⟨hsettle, hshadow, halloc, hlayout⟩ := h
  exact ⟨hsettle, hshadow, fun q hact => .of_layout hact halloc (hlayout q)⟩

theorem State.SameLayout.settleSound {s t : State} (h : s.SameLayout t) (hs : s.settleSound) : t.settleSound :=
  h.settledAlike.settleSound hs

theorem State.SettledAlike.trans {s t u : State} (h : s.SettledAlike t) (h' : t.SettledAlike u) :
    s.SettledAlike u := by
  obtain ⟨hsettle, hshadow, hregions⟩ := h
  obtain ⟨hsettle', hshadow', hregions'⟩ := h'
  refine ⟨hsettle'.trans hsettle, hshadow'.trans hshadow, fun q hq => ?_⟩
  obtain ⟨hact, ⟨h1, h2, h3, h4, h5, h6⟩, hextent⟩ := hregions q hq
  obtain ⟨hact', ⟨h1', h2', h3', h4', h5', h6'⟩, hextent'⟩ := hregions' q hact
  exact ⟨hact', ⟨h1'.trans h1, h2'.trans h2, h3'.trans h3, h4'.trans h4, h5'.trans h5, h6'.trans h6⟩,
    hextent'.trans hextent⟩

end Sys2Proof.Machine
end

section
/-! Traffic and the Settle Table: the shadow words that completed cycles write, and the entries the Change Detector
makes, moves and drops. -/

namespace Sys2Proof.Machine

/-! ### Writing one shadow word -/

/-- The state after shadow word `k` has taken `w`; the records' states and configurations and the allocation are
kept. -/
structure State.WroteWord (s u : State) (k : Nat) (w : Word) : Prop where
  layout : ∀ q, (u.regions.get q).state = (s.regions.get q).state ∧ (u.regions.get q).cfg = (s.regions.get q).cfg
  alloc : u.alloc = s.alloc
  shadow : u.shadow = shadowSet s.shadow k w

/-- Word `k` is the one that `a` maps to in the acting region `r`. -/
structure State.Wrote (s u : State) (r : Fin 32) (a : Addr) (k : Nat) (w : Word) : Prop
    extends s.WroteWord u k w where
  acting : (s.region r).acting = true
  contains : (s.region r).cfg.contains a = true
  index : s.shadowIndex r a = some k

theorem State.WroteWord.actsAlike {s u : State} {k : Nat} {w : Word} (h : s.WroteWord u k w) {q : Fin 32}
    (hq : (s.region q).acting = true) : s.ActsAlike u q :=
  .of_layout hq h.alloc (h.layout q)

/-- The entry of another word address stays sound: its shadow word is another (R49). -/
theorem State.Wrote.other_entry {s u : State} {r : Fin 32} {a : Addr} {k : Nat} {w : Word} (h : s.Wrote u r a k w)
    (halloc : s.allocSound) {e : SettleEntry} (he : s.entrySound e) (hne : e.addr ≠ a) : u.entrySound e := by
  refine he.transfer (h.actsAlike he.acting) fun j hj => ?_
  have hjk : j ≠ k := fun hjk => hne (halloc.shadowIndex_inj he.contains h.contains (hjk ▸ hj) h.index)
  rw [h.shadow, shadowGet_shadowSet, if_neg hjk]

/-- Where the word was invalid, no entry rests on it. -/
theorem State.WroteWord.entry_of_invalid {s u : State} {k : Nat} {w : Word} (h : s.WroteWord u k w)
    (hnone : shadowGet s.shadow k = none) {e : SettleEntry}
    (he : s.entrySound e) : u.entrySound e := by
  refine he.transfer (h.actsAlike he.acting) fun j hj => ?_
  obtain ⟨i, hi, hcand⟩ := he.word
  obtain rfl : i = j := Option.some.inj (hi.symm.trans hj)
  have hik : i ≠ k := by
    rintro rfl
    rw [hnone] at hcand
    cases hcand
  rw [h.shadow, shadowGet_shadowSet, if_neg hik]

/-- The index of a word written is still its index. -/
theorem State.Wrote.index_after {s u : State} {r : Fin 32} {a : Addr} {k : Nat} {w : Word} (h : s.Wrote u r a k w) :
    (u.shadowIndex r a).bind (shadowGet u.shadow) = some w := by
  have hindex : u.shadowIndex r a = some k := by
    rw [← h.index, State.shadowIndex, State.shadowIndex, State.extentOf, h.alloc, State.extentOf, State.region,
      State.region, (h.layout r).2]
  rw [hindex, Option.bind_some, h.shadow, shadowGet_shadowSet, if_pos rfl]

/-- An entry for a word address belongs to the acting region that contains the address (R17). -/
theorem State.regionsApart.entry_region {s : State} (h : s.regionsApart) {r : Fin 32} {a : Addr}
    (hact : (s.region r).acting = true) (hcontains : (s.region r).cfg.contains a = true) {e : SettleEntry}
    (he : s.entrySound e) (ha : e.addr = a) : e.region = r :=
  h _ _ a (Region.committed_of_acting he.acting) (Region.committed_of_acting hact) (ha ▸ he.contains) hcontains

/-- An acting region that contains the word of an entry is a WATCH region (R70). -/
theorem State.regionsApart.entry_watch {s : State} (h : s.regionsApart) {r : Fin 32} {a : Addr}
    (hact : (s.region r).acting = true) (hcontains : (s.region r).cfg.contains a = true) {e : SettleEntry}
    (he : s.entrySound e) (ha : e.addr = a) : (s.region r).cfg.watch = true := by
  rw [← h.entry_region hact hcontains he ha]
  obtain ⟨_, hwatch, _⟩ := he
  exact hwatch

/-! ### The Change Detector -/

theorem State.settleEntry_mem {s : State} {a : Addr} {e : SettleEntry} (h : s.settleEntry a = some e) :
    e ∈ s.settle ∧ e.addr = a :=
  ⟨List.mem_of_find?_eq_some h, by simpa using List.find?_some h⟩

theorem State.settleEntry_none {s : State} {a : Addr} (h : s.settleEntry a = none) :
    ∀ e ∈ s.settle, e.addr ≠ a := by
  intro e he heq
  simpa [heq] using List.find?_eq_none.1 h e he

/-- The entry found for a word address is the only one. -/
theorem State.settleSound.eq_settleEntry {s : State} (h : s.settleSound) {a : Addr} {e e' : SettleEntry}
    (he : s.settleEntry a = some e) (he' : e' ∈ s.settle) (ha : e'.addr = a) : e' = e := by
  obtain ⟨hmem, haddr⟩ := State.settleEntry_mem he
  exact List.inj_on_of_nodup_map h.2.1 he' hmem (ha.trans haddr.symm)

/-- The table after a change restarts the entry of `a` with another candidate (R72). -/
def restartEntry (a : Addr) (candidate : Word) (ticks : Nat) (e : SettleEntry) : SettleEntry :=
  if e.addr = a then { e with candidate := candidate, remaining := ticks } else e

@[simp] theorem restartEntry_addr (a : Addr) (candidate : Word) (ticks : Nat) (e : SettleEntry) :
    (restartEntry a candidate ticks e).addr = e.addr := by
  unfold restartEntry
  split <;> rfl

/-- What a detected write makes of the Settle Table (R68 to R74): it stays, with no entry for the word or the entry's
candidate written; it takes a new entry; the word's entry is restarted; or that entry leaves. -/
theorem State.detect_settle_cases (s : State) (r : Fin 32) (a : Addr) (old new : Word) :
    let c := (s.region r).cfg
    let t := s.detect r a old new
    (t.settle = s.settle ∧
      (c.settleTime = 0 ∨ s.settleEntry a = none ∨ ∃ e, s.settleEntry a = some e ∧ new = e.candidate)) ∨
    (c.settleTime ≠ 0 ∧ s.settleEntry a = none ∧ sensed c old new = true ∧ s.settle.length < 16 ∧
      t.settle = s.settle ++ [⟨r, a, old, new, c.settleTime.toNat⟩]) ∨
    (c.settleTime ≠ 0 ∧ ∃ e, s.settleEntry a = some e ∧ sensed c e.confirmed new = true ∧
      t.settle = s.settle.map (restartEntry a new c.settleTime.toNat)) ∨
    t.settle = s.settle.filter (fun e => e.addr ≠ a) := by
  intro c t
  by_cases hzero : c.settleTime = 0
  · refine .inl ⟨?_, .inl hzero⟩
    simp only [t, State.detect, show (s.region r).cfg.settleTime = 0 from hzero, if_true]
    split <;> simp
  · have hdetect : ¬(s.region r).cfg.settleTime = 0 := hzero
    simp only [t, State.detect, hdetect, if_false]
    split
    · next hentry =>
      split
      · next hsensed =>
        split
        · next hroom => exact .inr (.inl ⟨hzero, hentry, hsensed, hroom, rfl⟩)
        · exact .inl ⟨by simp, .inr (.inl hentry)⟩
      · exact .inl ⟨rfl, .inr (.inl hentry)⟩
    · next e hentry =>
      split
      · next heq => exact .inl ⟨rfl, .inr (.inr ⟨e, hentry, heq⟩)⟩
      · split
        · next hsensed => exact .inr (.inr (.inl ⟨hzero, e, hentry, hsensed, rfl⟩))
        · exact .inr (.inr (.inr (by simp)))

/-! ### The table after a written word -/

section
variable {s u : State} {r : Fin 32} {a : Addr} {k : Nat} {new : Word}

/-- A table that lists no entry for the word written is kept. -/
theorem State.Wrote.settleSound_of_absent (h : s.Wrote u r a k new) (halloc : s.allocSound) (hs : s.settleSound)
    (hsub : u.settle.Sublist s.settle) (habsent : ∀ e ∈ u.settle, s.entrySound e → e.addr ≠ a) : u.settleSound :=
  hs.of_sublist hsub fun e he hsound => h.other_entry halloc hsound (habsent e he hsound)

/-- An entry of the region for the word written, whose candidate is the value written, is sound. -/
theorem State.Wrote.written_entry (h : s.Wrote u r a k new) (hwatch : (s.region r).cfg.watch = true)
    {e : SettleEntry} (hreg : e.region = r) (ha : e.addr = a) (hcand : e.candidate = new)
    (hsensed : sensed (s.region r).cfg e.confirmed new = true) (hlow : 1 ≤ e.remaining)
    (hhigh : e.remaining ≤ (s.region r).cfg.settleTime.toNat) : u.entrySound e := by
  subst hreg ha hcand
  obtain ⟨hact, _, _⟩ := h.actsAlike h.acting
  have hcfg : (u.region e.region).cfg = (s.region e.region).cfg := (h.layout _).2
  refine ⟨hact, ?_, ?_, ?_, hlow, ?_, h.index_after⟩ <;> rw [hcfg]
  · exact hwatch
  · exact h.contains
  · exact hsensed
  · exact hhigh

/-- The table stays where the word has no entry, or one whose candidate is written again. A settle time of 0 leaves no
room for an entry. -/
theorem State.Wrote.settleSound_kept (h : s.Wrote u r a k new) (hapart : s.regionsApart) (halloc : s.allocSound)
    (hs : s.settleSound) (hwatch : (s.region r).cfg.watch = true) (hkept : u.settle = s.settle)
    (hwhy : (s.region r).cfg.settleTime = 0 ∨ s.settleEntry a = none ∨
      ∃ e, s.settleEntry a = some e ∧ new = e.candidate) : u.settleSound := by
  refine hs.of_sublist (hkept ▸ List.Sublist.refl _) fun e he hsound => ?_
  rw [hkept] at he
  by_cases ha : e.addr = a
  · have hreg := hapart.entry_region h.acting h.contains hsound ha
    obtain ⟨_, _, _, hsensed, hlow, hhigh, _⟩ := hsound
    rw [hreg] at hsensed hhigh
    rcases hwhy with hzero | hnone | ⟨e', he', hcand⟩
    · rw [hzero] at hhigh
      exact absurd (hlow.trans hhigh) (by decide)
    · exact absurd ha (State.settleEntry_none hnone e he)
    · obtain rfl := hs.eq_settleEntry he' he ha
      exact h.written_entry hwatch hreg ha hcand.symm (hcand ▸ hsensed) hlow hhigh
  · exact h.other_entry halloc hsound ha

/-- A new entry for a word without one is taken while there is room (R71). -/
theorem State.Wrote.settleSound_added (h : s.Wrote u r a k new) (halloc : s.allocSound) (hs : s.settleSound)
    {e : SettleEntry} (hadded : u.settle = s.settle ++ [e])
    (hnone : s.settleEntry a = none) (hroom : s.settle.length < 16) (ha : e.addr = a) (he : u.entrySound e) :
    u.settleSound := by
  obtain ⟨_, hnodup, hall⟩ := hs
  refine ⟨?_, ?_, fun x hx => ?_⟩
  · rw [hadded, List.length_append]
    exact hroom
  · rw [hadded, List.map_append, List.nodup_append]
    refine ⟨hnodup, by simp, fun b hb y hy => ?_⟩
    obtain ⟨x, hx, rfl⟩ := List.mem_map.1 hb
    obtain rfl : y = a := by simpa [ha] using hy
    exact State.settleEntry_none hnone x hx
  · rw [hadded] at hx
    rcases List.mem_append.1 hx with hx | hx
    · exact h.other_entry halloc (hall x hx) (State.settleEntry_none hnone x hx)
    · rwa [List.mem_singleton.1 hx]

/-- The word's entry restarted with the value written as its candidate (R72). -/
theorem State.Wrote.settleSound_restarted (h : s.Wrote u r a k new) (hapart : s.regionsApart)
    (halloc : s.allocSound) (hs : s.settleSound) (hwatch : (s.region r).cfg.watch = true)
    {ticks : Nat} (hlow : 1 ≤ ticks) (hhigh : ticks ≤ (s.region r).cfg.settleTime.toNat) {e : SettleEntry}
    (he : s.settleEntry a = some e) (hsensed : sensed (s.region r).cfg e.confirmed new = true)
    (hmoved : u.settle = s.settle.map (restartEntry a new ticks)) : u.settleSound := by
  obtain ⟨hlength, hnodup, hall⟩ := id hs
  refine ⟨?_, ?_, fun x hx => ?_⟩
  · rwa [hmoved, List.length_map]
  · rw [hmoved, List.map_map]
    simpa [Function.comp_def] using hnodup
  · rw [hmoved] at hx
    obtain ⟨y, hy, rfl⟩ := List.mem_map.1 hx
    unfold restartEntry
    split
    · next ha =>
      have hreg := hapart.entry_region h.acting h.contains (hall y hy) ha
      obtain rfl := hs.eq_settleEntry he hy ha
      exact h.written_entry hwatch hreg ha rfl hsensed hlow hhigh
    · next ha => exact h.other_entry halloc (hall y hy) ha

/-- The Change Detector keeps the Settle Table after the word's new value has been taken into the shadow (R70). -/
theorem State.Wrote.detect_settleSound (h : s.Wrote u r a k new) (hapart : s.regionsApart)
    (halloc : s.allocSound) (hs : s.settleSound) (hsettle : u.settle = s.settle)
    (hwatch : (s.region r).cfg.watch = true) (old : Word) : (u.detect r a old new).settleSound := by
  have hw : s.Wrote (u.detect r a old new) r a k new :=
    { h with
      layout := fun q => by simpa using h.layout q
      alloc := by simpa using h.alloc
      shadow := by simpa using h.shadow }
  have hcases := u.detect_settle_cases r a old new
  rw [State.settleEntry, hsettle, show (u.region r).cfg = (s.region r).cfg from (h.layout r).2] at hcases
  have hticks : (s.region r).cfg.settleTime ≠ 0 → 1 ≤ (s.region r).cfg.settleTime.toNat := fun hne =>
    Nat.one_le_iff_ne_zero.2 fun hz => hne (BitVec.eq_of_toNat_eq hz)
  rcases hcases with ⟨hkept, hwhy⟩ | ⟨hne, hnone, hsensed, hroom, hadded⟩ |
      ⟨hne, e, he, hsensed, hmoved⟩ | hdropped
  · exact hw.settleSound_kept hapart halloc hs hwatch hkept hwhy
  · exact hw.settleSound_added halloc hs hadded hnone hroom rfl
      (hw.written_entry hwatch rfl rfl rfl hsensed (hticks hne) (Nat.le_refl _))
  · exact hw.settleSound_restarted hapart halloc hs hwatch (hticks hne) (Nat.le_refl _) he hsensed hmoved
  · refine hw.settleSound_of_absent halloc hs (hdropped ▸ List.filter_sublist) fun e he _ => ?_
    rw [hdropped] at he
    simpa using (List.mem_filter.1 he).2

end

end Sys2Proof.Machine
end

section
/-! Every command keeps the Settle Table (R70), in states whose regions and extents are apart. -/

namespace Sys2Proof.Machine

/-- From `s` to `t` the Settle Table stays sound, where the regions and the extents of `s` are apart. -/
def State.SettleKept (s t : State) : Prop := s.regionsApart → s.allocSound → s.settleSound → t.settleSound

theorem State.SettledAlike.settleKept {s t : State} (h : s.SettledAlike t) : s.SettleKept t :=
  fun _ _ hs => h.settleSound hs

theorem State.SameLayout.refl (s : State) : s.SameLayout s := ⟨rfl, rfl, rfl, fun _ => ⟨rfl, rfl⟩⟩

theorem State.SameLayout.settleKept {s t : State} (h : s.SameLayout t) : s.SettleKept t :=
  h.settledAlike.settleKept

theorem State.SettleKept.settled {s t u : State} (h : s.SettleKept t) (h' : t.SettledAlike u) : s.SettleKept u :=
  fun hapart halloc hs => h'.settleSound (h hapart halloc hs)

theorem State.SettleKept.layout {s t u : State} (h : s.SettleKept t) (h' : t.SameLayout u) : s.SettleKept u :=
  h.settled h'.settledAlike

theorem State.SettleKept.refl (s : State) : s.SettleKept s := (State.SameLayout.refl s).settleKept

/-- What the statement rests on is the same in both states before. -/
theorem State.SettleKept.of_same {s s' t : State} (h : s'.SettleKept t) (hsettle : s'.settle = s.settle)
    (hshadow : s'.shadow = s.shadow) (halloc : s'.alloc = s.alloc) (hregions : s'.regions = s.regions) :
    s.SettleKept t := by
  intro hapart hsound hs
  refine h ?_ ?_ (State.SameLayout.settleSound ⟨hsettle, hshadow, halloc, by simp [hregions]⟩ hs)
  · simpa only [State.regionsApart, State.region, hregions] using hapart
  · simpa only [State.allocSound, State.extentOf, State.region, hregions, halloc] using hsound

/-! ### Operations that leave the layout -/

theorem State.produce_sameLayout (s : State) (b : Report) : s.SameLayout (s.produce b) := by
  simp [State.SameLayout]

theorem State.arbitrate_sameLayout (s : State) : s.SameLayout s.arbitrate := by
  simp [State.SameLayout]

theorem State.releasePort_sameLayout (s : State) : s.SameLayout s.releasePort := by
  simp [State.SameLayout]

theorem State.integrate_sameLayout (s : State) (r : Fin 32) (a : Addr) : s.SameLayout (s.integrate r a) := by
  simp [State.SameLayout]

theorem State.judgeTrip_sameLayout (s : State) (r : Fin 32) (a : Option Addr) : s.SameLayout (s.judgeTrip r a) := by
  simp [State.SameLayout]

theorem State.cancelRead_sameLayout (s : State) (leaving : Fin 32 → Bool) : s.SameLayout (s.cancelRead leaving) :=
  .refl s

theorem State.answerMaster_sameLayout (s : State) (d : Option BusData) : s.SameLayout (s.answerMaster d) := by
  simp [State.SameLayout]

/-! ### Traffic -/

/-- A shadow word taken together with a count of one record. -/
theorem State.wroteWord_modRegion (s : State) (k : Nat) (w : Word) (r : Fin 32) (f : Region → Region)
    (hf : ∀ x, (f x).state = x.state ∧ (f x).cfg = x.cfg) :
    s.WroteWord ((s.writeShadow k w).modRegion r f) k w := by
  refine ⟨fun q => ?_, rfl, rfl⟩
  by_cases hqr : r = q
  · subst hqr
    simpa using hf (s.region r)
  · simp [hqr]

/-- Making an invalid word valid, with a count of its region, rests under no entry. -/
theorem State.WroteWord.settleKept {s u : State} {k : Nat} {w : Word} (h : s.WroteWord u k w)
    (hsettle : u.settle = s.settle) (hnone : shadowGet s.shadow k = none) :
    s.SettleKept u :=
  fun _ _ hs => hs.of_sublist (hsettle ▸ List.Sublist.refl _) fun _ _ he => h.entry_of_invalid hnone he

theorem State.shadowWrite_settleKept {s : State} {r : Fin 32} {a : Addr} (hact : (s.region r).acting = true)
    (hcontains : (s.region r).cfg.contains a = true) (enables : BitVec 2) (d : Word) :
    s.SettleKept (s.shadowWrite r a enables d) := by
  unfold State.shadowWrite
  split
  · exact .refl s
  · next k hk =>
    have hwrote : ∀ w, s.Wrote (s.writeShadow k w) r a k w := fun w =>
      ⟨⟨fun _ => ⟨rfl, rfl⟩, rfl, rfl⟩, hact, hcontains, hk⟩
    split
    · next old hold =>
      dsimp only
      split
      · next hwatch =>
        exact fun hapart halloc hs => (hwrote _).detect_settleSound hapart halloc hs rfl hwatch old
      · next hwatch =>
        intro hapart halloc hs
        refine (hwrote _).settleSound_of_absent halloc hs (List.Sublist.refl _) ?_
        exact fun e _ he ha => hwatch (hapart.entry_watch hact hcontains he ha)
    · next hnone =>
      split
      · exact State.WroteWord.settleKept (State.wroteWord_modRegion s k d r _ (by exact fun _ => ⟨rfl, rfl⟩)) rfl hnone
      · exact .refl s

/-- A read-verify comparison drops the entry whose word it resynchronises (R63). -/
theorem State.verifyRead_settleKept {s : State} {r : Fin 32} {a : Addr} {k : Nat}
    (hact : (s.region r).acting = true) (hcontains : (s.region r).cfg.contains a = true)
    (hk : s.shadowIndex r a = some k) (held data : Word) : s.SettleKept (s.verifyRead r a k held data) := by
  have hword := State.wroteWord_modRegion s k data r (fun x => { x with divergences := satInc x.divergences })
    fun _ => ⟨rfl, rfl⟩
  unfold State.verifyRead
  split
  · exact .refl s
  · dsimp only
    refine State.SettleKept.layout ?_ (State.produce_sameLayout _ _)
    split
    · next hwatch =>
      intro _ halloc hs
      refine State.Wrote.settleSound_of_absent (s := s) ⟨⟨hword.layout, hword.alloc, hword.shadow⟩, hact, hcontains, hk⟩
        halloc hs List.filter_sublist ?_
      intro e he _
      simpa using (List.mem_filter.1 he).2
    · next hwatch =>
      intro hapart halloc hs
      refine State.Wrote.settleSound_of_absent (s := s) ⟨hword, hact, hcontains, hk⟩ halloc hs
        (List.Sublist.refl _) ?_
      exact fun e _ he ha => hwatch (hapart.entry_watch hact hcontains he ha)

theorem State.shadowRead_settleKept {s : State} {r : Fin 32} {a : Addr} (hact : (s.region r).acting = true)
    (hcontains : (s.region r).cfg.contains a = true) (d : Word) : s.SettleKept (s.shadowRead r a d) := by
  unfold State.shadowRead
  split
  · exact .refl s
  · next k hk =>
    split
    · next hnone => exact State.WroteWord.settleKept (State.wroteWord_modRegion s k d r _ (by exact fun _ => ⟨rfl, rfl⟩)) rfl hnone
    · split
      · exact State.verifyRead_settleKept hact hcontains hk _ _
      · exact .refl s

theorem State.consumeWrite_settleKept (s : State) (a : Addr) (enables : BitVec 2) (d : Word) :
    s.SettleKept (s.consumeWrite a enables d) := by
  unfold State.consumeWrite
  split
  · exact .refl s
  · next r hr =>
    obtain ⟨hact, hcontains⟩ := State.actingRegion_spec hr
    refine State.SettleKept.layout ?_ (State.integrate_sameLayout _ r a)
    split
    · exact State.shadowWrite_settleKept hact hcontains enables d
    · exact .refl s

theorem State.consumeRead_settleKept (s : State) (a : Addr) (enables : BitVec 2) (d : Word) (lines : BitVec 2) :
    s.SettleKept (s.consumeRead a enables d lines) := by
  unfold State.consumeRead
  split
  · exact .refl s
  · next r hr =>
    obtain ⟨hact, hcontains⟩ := State.actingRegion_spec hr
    split
    · exact State.shadowRead_settleKept hact hcontains d
    · exact .refl s

/-- A prime read's data reaches an invalid word only (R60). -/
theorem State.takePrime_settleKept (s : State) (p : PrimeRead) (d : Word) : s.SettleKept (s.takePrime p d) := by
  unfold State.takePrime
  split
  · split
    · exact .refl s
    · next k _ =>
      split
      · exact .refl s
      · next hnone => exact State.WroteWord.settleKept (State.wroteWord_modRegion s k d p.region _ (by exact fun _ => ⟨rfl, rfl⟩)) rfl hnone
  · exact .refl s

/-! ### The Prime Engine -/

/-- Changing one record leaves every region acting that acted, while the record goes on acting and senses as
before. -/
theorem State.modRegion_settledAlike (s : State) (r : Fin 32) (f : Region → Region)
    (hf : (s.region r).acting = true → (f (s.region r)).acting = true ∧
      (f (s.region r)).cfg.sensesAs (s.region r).cfg) : s.SettledAlike (s.modRegion r f) := by
  refine ⟨rfl, rfl, fun q hq => ?_⟩
  by_cases hqr : r = q
  · subst hqr
    obtain ⟨hact, hcfg⟩ := hf hq
    refine ⟨?_, ?_, rfl⟩ <;> simpa [State.modRegion]
  · exact .of_layout hq rfl (by simp [hqr])

theorem State.completePriming_settledAlike (s : State) (r : Fin 32) : s.SettledAlike (s.completePriming r) := by
  have hlive := s.modRegion_settledAlike r (fun x => { x with state := .live, primeCursor := x.cfg.size })
    fun _ => ⟨rfl, .refl _⟩
  exact State.SettledAlike.trans hlive (State.SameLayout.settledAlike (by simp [State.SameLayout, State.completePriming]))

theorem primeSteps_settledAlike (n : Nat) (s : State) : s.SettledAlike (primeSteps n s) := by
  induction n generalizing s with
  | zero => exact State.SameLayout.settledAlike ⟨rfl, rfl, rfl, fun _ => ⟨rfl, rfl⟩⟩
  | succ n ih =>
    unfold primeSteps
    split
    · exact State.SameLayout.settledAlike ⟨rfl, rfl, rfl, fun _ => ⟨rfl, rfl⟩⟩
    · next r _ =>
      dsimp only
      have hserving : s.SettledAlike { s with prime := { s.prime with served := some r } } :=
        State.SameLayout.settledAlike (.refl s)
      split
      · exact hserving
      · have hrescanned := hserving.trans (State.modRegion_settledAlike _ r
          (fun x => { x with primeCursor := x.cfg.size }) fun h => ⟨h, .refl _⟩)
        split
        · exact hrescanned
        · exact hrescanned.trans ((State.completePriming_settledAlike _ r).trans (ih _))

theorem State.primeStep_settledAlike (s : State) : s.SettledAlike s.primeStep := by
  unfold State.primeStep
  split
  · exact (State.SameLayout.refl s).settledAlike
  · exact primeSteps_settledAlike 33 s

theorem State.primeLeft_settledAlike (s : State) : s.SettledAlike s.primeLeft := by
  unfold State.primeLeft
  split
  · exact s.primeStep_settledAlike
  · exact (State.SameLayout.refl s).settledAlike

end Sys2Proof.Machine
end

section
/-! The region commands, the monitor commands, the resets and time: each keeps the Settle Table (R70, R78, R79). -/

namespace Sys2Proof.Machine

/-! ### Allocation -/

theorem find_removeExtent {q r : Fin 32} (h : q ≠ r) (l : List Extent) :
    (removeExtent r l).find? (fun e => e.region = q) = l.find? (fun e => e.region = q) := by
  rw [removeExtent, List.find?_filter]
  congr 1
  funext e
  by_cases he : e.region = q <;> simp [he, h]

theorem find_insertExtent {q : Fin 32} {e : Extent} (h : e.region ≠ q) (l : List Extent) :
    (insertExtent e l).find? (fun x => x.region = q) = l.find? (fun x => x.region = q) := by
  induction l with
  | nil => simp [insertExtent, h]
  | cons x rest ih =>
    unfold insertExtent
    split
    · simp [h]
    · rw [List.find?_cons, List.find?_cons, ih]

/-- A commit to index `r` leaves the extents of the other regions (R50, R51). -/
theorem State.find_allocate {s : State} {q r : Fin 32} {c : RegionConfig} {alloc : List Extent}
    (h : s.allocate r c = some alloc) (hqr : q ≠ r) :
    alloc.find? (fun e => e.region = q) = s.extentOf q := by
  unfold State.allocate at h
  dsimp only at h
  split at h
  · obtain ⟨first, _, rfl⟩ := Option.map_eq_some_iff.1 h
    rw [find_insertExtent (Ne.symm hqr), find_removeExtent hqr, State.extentOf]
  · obtain rfl := Option.some.inj h
    rw [find_removeExtent hqr, State.extentOf]

/-! ### The region commands -/

/-- Replacing a record that does not act, with the other regions' extents kept, leaves the Settle Table as it was. -/
theorem State.setRegion_settledAlike {s : State} {r : Fin 32} (hidle : (s.region r).acting = false) (x : Region)
    {alloc : List Extent} (hfind : ∀ q, q ≠ r → alloc.find? (fun e => e.region = q) = s.extentOf q) :
    s.SettledAlike { s.setRegion r x with alloc := alloc } := by
  refine ⟨rfl, rfl, fun q hq => ?_⟩
  have hqr : q ≠ r := by
    rintro rfl
    rw [hidle] at hq
    cases hq
  have hsame : (s.setRegion r x).region q = s.region q := by simp [Ne.symm hqr]
  exact ⟨(congrArg Region.acting hsame).trans hq, .of_eq (congrArg Region.cfg hsame), hfind q hqr⟩

theorem Region.acting_of_state {x : Region} (h : x.state = .idle ∨ x.enabled = false) : x.acting = false := by
  cases hs : x.state <;> simp [Region.acting, Region.enabled, hs] at h ⊢

theorem commitRegionEffect_settleKept (ops : List Byte) (s : State) :
    s.SettleKept (commitRegionEffect ops s).1 := by
  unfold commitRegionEffect
  split
  · exact .refl s
  · split
    · exact .refl s
    · next r _ =>
      split
      · exact .refl s
      · next henabled =>
        split
        · exact .refl s
        · split
          · exact .refl s
          · split
            · exact .refl s
            · next alloc halloc =>
              have hidle := Region.acting_of_state (.inr (Bool.eq_false_of_not_eq_true henabled))
              exact (State.setRegion_settledAlike hidle _ fun q => State.find_allocate halloc).settleKept

/-- A region command keeps the Settle Table where its effect does on an allowed record. -/
theorem State.regionCommand_settleKept {s : State} (index : Byte) {allowed : Region → Bool}
    {effect : Fin 32 → State} (h : ∀ r, allowed (s.region r) = true → s.SettleKept (effect r)) :
    s.SettleKept (s.regionCommand index allowed effect).1 := by
  unfold State.regionCommand
  split
  · exact .refl s
  · next r _ =>
    split
    · next hallowed => exact h r hallowed
    · exact .refl s

theorem State.enableRegion_settleKept {s : State} {r : Fin 32} (h : (s.region r).state = .idle) :
    s.SettleKept (s.enableRegion r) := by
  have hidle : ∀ f, s.SettledAlike (s.modRegion r f) := fun f =>
    State.modRegion_settledAlike s r f fun hact => by
      rw [Region.acting_of_state (.inl h)] at hact
      cases hact
  unfold State.enableRegion
  split
  · exact (hidle _).settleKept
  · refine State.SettledAlike.settleKept (State.SettledAlike.trans ?_ (State.arbitrate_sameLayout _).settledAlike)
    split
    · exact (hidle _).trans (State.primeStep_settledAlike _)
    · exact hidle _

/-- Invalidating a region's words leaves the words of the other regions (R49, R53). -/
theorem State.invalidate_word {s : State} (h : s.allocSound) {q r : Fin 32} (hqr : q ≠ r) {a : Addr} {k : Nat}
    (ha : (s.region q).cfg.contains a = true) (hk : s.shadowIndex q a = some k) :
    shadowGet (s.invalidate r).shadow k = shadowGet s.shadow k := by
  unfold State.invalidate
  split
  · rfl
  · next e he =>
    obtain ⟨e', he', hfirst, hlast⟩ := h.shadowIndex_mem ha hk
    obtain ⟨hmem, hreg⟩ := State.extentOf_mem he
    obtain ⟨hmem', hreg'⟩ := State.extentOf_mem he'
    have hd := h.disjoint hmem' hmem (by rwa [hreg, hreg'])
    unfold Extent.apart at hd
    rw [shadowGet_shadowClear, if_neg (by omega)]

theorem State.disableRegion_settleKept (s : State) (r : Fin 32) : s.SettleKept (s.disableRegion r) := by
  have hleft : s.SettleKept
      (((s.invalidate r).dropEntries r).modRegion r fun x => { x.clearIntegrator with state := .idle }) := by
    intro _ halloc hs
    refine hs.of_sublist (by simp) fun e he hsound => ?_
    have hne : e.region ≠ r := by simpa using (List.mem_filter.1 he).2
    refine hsound.transfer (.of_layout hsound.acting (by simp) (by simp [Ne.symm hne])) fun k hk => ?_
    exact State.invalidate_word halloc hne hsound.contains hk
  unfold State.disableRegion
  dsimp only
  split
  · have hcancelled := hleft.layout (State.cancelRead_sameLayout _ fun q => q == r)
    exact (hcancelled.settled (State.primeLeft_settledAlike _)).layout (State.arbitrate_sameLayout _)
  · exact hleft

/-- SET_SENSE changes masks of a region whose entries it removes (R78). -/
theorem State.setSense_settleKept (s : State) (rise fall : Word) (r : Fin 32) :
    s.SettleKept (s.setSense rise fall r) := by
  intro _ _ hs
  refine hs.of_sublist List.filter_sublist fun e he hsound => ?_
  have hne : e.region ≠ r := by simpa using (List.mem_filter.1 he).2
  exact hsound.transfer (.of_layout hsound.acting rfl (by simp [State.setSense, Ne.symm hne])) fun _ _ => rfl

theorem State.setThresholds_settleKept (s : State) (alert trip : Word) (r : Fin 32) :
    s.SettleKept (s.setThresholds alert trip r) := by
  have hset := s.modRegion_settledAlike r
    (fun x => { x with cfg := { x.cfg with alertThreshold := alert, tripThreshold := trip } })
    fun h => ⟨h, rfl, rfl, rfl, rfl, rfl, rfl⟩
  unfold State.setThresholds
  dsimp only
  split
  · exact (hset.trans (State.modRegion_settledAlike _ r _ fun h => ⟨h, .refl _⟩)).settleKept
  · have hjudged := hset.trans (State.SameLayout.settledAlike (State.judgeTrip_sameLayout _ r none))
    have hflag := hjudged.trans (State.modRegion_settledAlike _ r Region.rejudgeAlert fun h => ⟨h, .refl _⟩)
    exact (hflag.trans (State.arbitrate_sameLayout _).settledAlike).settleKept

theorem setThresholdsEffect_settleKept (ops : List Byte) (s : State) :
    s.SettleKept (setThresholdsEffect ops s).1 := by
  unfold setThresholdsEffect
  split
  · split
    · exact .refl s
    · split
      · exact .refl s
      · split
        · exact State.setThresholds_settleKept s _ _ _
        · exact .refl s
  · exact .refl s

/-! ### The monitor commands and the resets -/

/-- ARM starts the HELD regions, which do not act yet (R15). -/
theorem State.armMonitor_settleKept (s : State) : s.SettleKept s.armMonitor := by
  have harmed : s.SettledAlike
      (({ s with monitor := { s.monitor with state := .run } } : State).mapRegions Region.armed) := by
    refine ⟨by simp, by simp, fun q hq => ?_⟩
    have hheld : Region.armed (s.region q) = s.region q := by
      refine if_neg fun hheld => ?_
      rw [Region.acting, hheld] at hq
      cases hq
    refine .of_layout hq (by simp) ?_
    simpa using ⟨congrArg Region.state hheld, congrArg Region.cfg hheld⟩
  exact ((harmed.trans (State.primeStep_settledAlike _)).trans (State.arbitrate_sameLayout _).settledAlike).settleKept

theorem State.disarmMonitor_settleKept (s : State) : s.SettleKept s.disarmMonitor :=
  fun _ _ _ => State.settleSound_of_nil (by simp [State.disarmMonitor])

theorem State.fullReset_settleKept (s : State) (cause : ResetCause) : s.SettleKept (s.fullReset cause) :=
  fun _ _ _ => State.settleSound_of_nil (by simp [State.fullReset])

theorem State.partialReset_settleKept (s : State) : s.SettleKept s.partialReset :=
  fun _ _ _ => State.settleSound_of_nil (by simp [State.partialReset])

/-! ### Time -/

/-- A base tick takes one tick off every entry, and those at 0 leave (R75, R76). -/
theorem State.tick_settle (s : State) :
    s.tick.settle =
      (s.settle.map fun e => { e with remaining := e.remaining - 1 }).filter fun e => e.remaining ≠ 0 := by
  simp [State.tick, State.settleTick]

theorem State.tick_settleKept (s : State) : s.SettleKept s.tick := by
  rintro _ _ ⟨hlength, hnodup, hall⟩
  rw [State.settleSound_iff, State.tick_settle]
  refine ⟨?_, ?_, fun e he => ?_⟩
  · exact (List.length_filter_le _ _).trans (by rwa [List.length_map])
  · refine List.Nodup.sublist (List.filter_sublist.map _) ?_
    rwa [List.map_map]
  · obtain ⟨he, hleft⟩ := List.mem_filter.1 he
    obtain ⟨e', he', rfl⟩ := List.mem_map.1 he
    have hsound : s.entrySound e' := hall e' he'
    have hafter : s.tick.entrySound e' :=
      hsound.transfer (.of_layout hsound.acting (by simp) (by simp)) fun _ _ => by simp
    obtain ⟨hact, hwatch, hcontains, hsensed, _, hhigh, hword⟩ := hafter
    have hpos : e'.remaining - 1 ≠ 0 := by simpa using hleft
    exact ⟨hact, hwatch, hcontains, hsensed, Nat.one_le_iff_ne_zero.2 hpos, (Nat.sub_le _ _).trans hhigh, hword⟩

/-- An expired entry leaves the table (R76). -/
theorem State.dropEntry_settleKept (s : State) (a : Addr) : s.SettleKept (s.dropEntry a) :=
  fun _ _ hs => hs.of_sublist List.filter_sublist fun _ _ he =>
    he.transfer (.of_layout he.acting rfl ⟨rfl, rfl⟩) fun _ _ => rfl

end Sys2Proof.Machine
end

section
/-! The Settle Table over every command: the commands that leave what an entry rests on, the completions, and the
proof of O58. -/

namespace Sys2Proof.Machine

/-! ### Commands that leave the regions' layout -/

/-- The command answers a next state that has the property. -/
def Answers (o : Host.Outcome State Fault Refusal) (P : State → Prop) : Prop := ∃ t, o = .next t ∧ P t

theorem Answers.next {t : State} {P : State → Prop} (h : P t) : Answers (.next t) P := ⟨t, rfl, h⟩

theorem readNoticeFrame_sameLayout (f : Frame) (s : State) : s.SameLayout (readNoticeFrame.effect f s).1 := by
  simp only [readNoticeFrame]
  (repeat' split) <;> simp [State.SameLayout]

theorem clearNoticeEffect_sameLayout (ops : List Byte) (s : State) : s.SameLayout (clearNoticeEffect ops s).1 := by
  unfold clearNoticeEffect
  split <;> simp [State.SameLayout]

theorem setNoticeMaskEffect_sameLayout (ops : List Byte) (s : State) :
    s.SameLayout (setNoticeMaskEffect ops s).1 := by
  unfold setNoticeMaskEffect
  split <;> simp [State.SameLayout]

theorem stageRegionEffect_sameLayout (ops : List Byte) (s : State) : s.SameLayout (stageRegionEffect ops s).1 := by
  unfold stageRegionEffect
  split <;> simp [State.SameLayout]

theorem readRegionFrame_sameLayout (f : Frame) (s : State) : s.SameLayout (readRegionFrame.effect f s).1 := by
  simp only [readRegionFrame]
  split <;> exact .refl s

/-- A count or flag of one record changes neither its state nor its configuration. -/
theorem State.modRegion_sameLayout (s : State) (r : Fin 32) (f : Region → Region)
    (hf : ∀ x, (f x).state = x.state ∧ (f x).cfg = x.cfg) : s.SameLayout (s.modRegion r f) := by
  refine ⟨rfl, rfl, rfl, fun q => ?_⟩
  by_cases hqr : r = q
  · subst hqr
    simpa using hf (s.region r)
  · simp [hqr]

theorem clearTripEffect_settleKept (ops : List Byte) (s : State) : s.SettleKept (clearTripEffect ops s).1 := by
  unfold clearTripEffect
  split
  · exact .refl s
  · exact State.regionCommand_settleKept _ fun r _ =>
      (State.modRegion_sameLayout s r (fun x => { x.clearIntegrator with refusalReported := false })
        fun _ => ⟨rfl, rfl⟩).settleKept

theorem clearCountsEffect_settleKept (ops : List Byte) (s : State) : s.SettleKept (clearCountsEffect ops s).1 := by
  unfold clearCountsEffect
  split
  · exact .refl s
  · exact State.regionCommand_settleKept _ fun r _ =>
      (State.modRegion_sameLayout s r _ (by exact fun _ => ⟨rfl, rfl⟩)).settleKept

theorem loadLinkEffect_sameLayout (ops : List Byte) (s : State) : s.SameLayout (loadLinkEffect ops s).1 := by
  unfold loadLinkEffect
  dsimp only
  (repeat' split) <;> simp [State.SameLayout]

theorem readLinkFrame_sameLayout (f : Frame) (s : State) : s.SameLayout (readLinkFrame.effect f s).1 := by
  simp only [readLinkFrame]
  split <;> exact .refl s

theorem startDrainEffect_sameLayout (ops : List Byte) (s : State) : s.SameLayout (startDrainEffect ops s).1 := by
  unfold startDrainEffect State.continueDrain State.startDrainAt
  dsimp only
  (repeat' split) <;> simp [State.SameLayout]

theorem stopDrainEffect_sameLayout (ops : List Byte) (s : State) : s.SameLayout (stopDrainEffect ops s).1 := by
  unfold stopDrainEffect
  split <;> simp [State.SameLayout]

theorem flushEffect_sameLayout (ops : List Byte) (s : State) : s.SameLayout (flushEffect ops s).1 := by
  unfold flushEffect
  dsimp only
  (repeat' split) <;> simp [State.SameLayout]

theorem abortDrainEffect_sameLayout (ops : List Byte) (s : State) : s.SameLayout (abortDrainEffect ops s).1 := by
  unfold abortDrainEffect
  dsimp only
  (repeat' split) <;> simp [State.SameLayout]

theorem popEventFrame_sameLayout (f : Frame) (s : State) : s.SameLayout (popEventFrame.effect f s).1 := by
  simp only [popEventFrame]
  (repeat' split) <;> simp [State.SameLayout]

theorem discardQueueEffect_sameLayout (ops : List Byte) (s : State) :
    s.SameLayout (discardQueueEffect ops s).1 := by
  unfold discardQueueEffect
  split <;> simp [State.SameLayout]

theorem unloadLinkEffect_sameLayout (ops : List Byte) (s : State) : s.SameLayout (unloadLinkEffect ops s).1 := by
  unfold unloadLinkEffect
  (repeat' split) <;> simp [State.SameLayout]

theorem resumeEffect_sameLayout (ops : List Byte) (s : State) : s.SameLayout (resumeEffect ops s).1 := by
  unfold resumeEffect
  (repeat' split) <;> simp [State.SameLayout]

theorem setTimebaseEffect_sameLayout (ops : List Byte) (s : State) : s.SameLayout (setTimebaseEffect ops s).1 := by
  unfold setTimebaseEffect
  (repeat' split) <;> simp [State.SameLayout]

theorem setOptionsEffect_sameLayout (ops : List Byte) (s : State) : s.SameLayout (setOptionsEffect ops s).1 := by
  unfold setOptionsEffect
  (repeat' split) <;> simp [State.SameLayout]

theorem setShadowPointerEffect_sameLayout (ops : List Byte) (s : State) :
    s.SameLayout (setShadowPointerEffect ops s).1 := by
  unfold setShadowPointerEffect
  (repeat' split) <;> simp [State.SameLayout]

theorem readShadowFrame_sameLayout (f : Frame) (s : State) : s.SameLayout (readShadowFrame.effect f s).1 := by
  simp only [readShadowFrame]
  (repeat' split) <;> simp [State.SameLayout]

theorem execMasterCycleArrives_sameLayout (moe mwe : Bool) (addr : Addr) (enables : BitVec 2) (data : Word)
    (parity : BitVec 2) (s : State) :
    Answers (execMasterCycleArrives moe mwe addr enables data parity s) s.SameLayout := by
  unfold execMasterCycleArrives
  split <;> exact .next (by simp [State.SameLayout])

theorem endMasterCycle_sameLayout (s : State) : s.SameLayout s.endMasterCycle := by
  simp [State.SameLayout]

theorem forward_sameLayout (s : State) (c : MasterCycle) : s.SameLayout (s.forward c) := .refl s

theorem execWriteGrant_sameLayout (s : State) : Answers (execWriteGrant s) s.SameLayout := by
  unfold execWriteGrant
  dsimp only
  (repeat' split) <;> exact .next (by simp [State.SameLayout, State.forward])

theorem execReadGrant_sameLayout (s : State) : Answers (execReadGrant s) s.SameLayout := by
  unfold execReadGrant
  (repeat' split) <;> exact .next (by simp [State.SameLayout, State.forward])

theorem execDrainGrant_sameLayout (s : State) : Answers (execDrainGrant s) s.SameLayout := by
  unfold execDrainGrant
  split <;> exact .next (by simp [State.SameLayout])

theorem execDrainWriteCompletion_sameLayout (s : State) : Answers (execDrainWriteCompletion s) s.SameLayout := by
  unfold execDrainWriteCompletion
  (repeat' split) <;> exact .next (by simp [State.SameLayout])

theorem execRecordWriteCompletion_sameLayout (s : State) : Answers (execRecordWriteCompletion s) s.SameLayout := by
  unfold execRecordWriteCompletion
  (repeat' split) <;> exact .next (by simp [State.SameLayout])

theorem execPadWriteCompletion_sameLayout (s : State) : Answers (execPadWriteCompletion s) s.SameLayout := by
  unfold execPadWriteCompletion
  (repeat' split) <;> exact .next (by simp [State.SameLayout])

theorem execBurstEnd_sameLayout (s : State) : Answers (execBurstEnd s) s.SameLayout := by
  unfold execBurstEnd
  split <;> exact .next (by simp [State.SameLayout])

theorem execSnapEdge_sameLayout (s : State) : Answers (execSnapEdge s) s.SameLayout := by
  unfold execSnapEdge State.startFreeze
  dsimp only
  (repeat' split) <;> exact .next (by simp [State.SameLayout])

theorem execDecayTick_sameLayout (s : State) : Answers (execDecayTick s) s.SameLayout := by
  unfold execDecayTick
  split <;> exact .next (by simp [State.SameLayout])

theorem execFlushComplete_sameLayout (s : State) : Answers (execFlushComplete s) s.SameLayout := by
  unfold execFlushComplete
  split <;> exact .next (by simp [State.SameLayout])

theorem execAbortCarriedOut_sameLayout (s : State) : Answers (execAbortCarriedOut s) s.SameLayout := by
  unfold execAbortCarriedOut
  split <;> exact .next (by simp [State.SameLayout])

theorem execLossPlacement_sameLayout (s : State) : Answers (execLossPlacement s) s.SameLayout :=
  .next (by simp [State.SameLayout])

/-! ### Completions of the memory -/

theorem execWriteCompletion_settleKept (s : State) : Answers (execWriteCompletion s) s.SettleKept := by
  unfold execWriteCompletion
  split
  · exact .next (.refl s)
  · next m _ =>
    split
    · have hanswered := (State.consumeWrite_settleKept (s.answerMaster none) m.addr m.enables m.data).of_same
        (s := s) (by simp) (by simp) (by simp) (by simp)
      exact .next (hanswered.layout (State.releasePort_sameLayout _))
    · exact .next (.refl s)

theorem execReadCompletion_settleKept (data : Word) (parity : BitVec 2) (s : State) :
    Answers (execReadCompletion data parity s) s.SettleKept := by
  unfold execReadCompletion
  split
  · exact .next (.refl s)
  · next m _ =>
    split
    · have hanswered := (State.consumeRead_settleKept ((s.answerMaster (some ⟨data, parity⟩)).checkParity .read
        m.addr m.enables data parity) m.addr m.enables data parity).of_same
        (s := s) (by simp) (by simp) (by simp) (by simp)
      exact .next (hanswered.layout (State.releasePort_sameLayout _))
    · exact .next (.refl s)

theorem execPrimeGrant_settleKept (s : State) : Answers (execPrimeGrant s) s.SettleKept := by
  unfold execPrimeGrant
  split
  · split
    · exact .next (.refl s)
    · next r _ =>
      split
      · next k cursor _ =>
        exact .next (State.modRegion_sameLayout s r (fun x => { x with primeCursor := cursor })
          fun _ => ⟨rfl, rfl⟩).settleKept
      · have hprimed := (State.completePriming_settledAlike
          { s with arb := { s.arb with award := none, lastBackground := .prime } } r).trans
            (State.primeStep_settledAlike _)
        exact .next (State.SettledAlike.settleKept (hprimed.trans (State.arbitrate_sameLayout _).settledAlike))
  · exact .next (.refl s)

theorem execPrimeReadCompletion_settleKept (data : Word) (parity : BitVec 2) (s : State) :
    Answers (execPrimeReadCompletion data parity s) s.SettleKept := by
  unfold execPrimeReadCompletion
  split
  · next p m _ _ =>
    split
    · have htaken := (State.takePrime_settleKept (s.checkParity .read m.addr m.enables data parity) p data).of_same
        (s := s) (by simp) (by simp) (by simp) (by simp)
      have hdone := htaken.layout (u := { (s.checkParity .read m.addr m.enables data parity).takePrime p data with
        prime := { ((s.checkParity .read m.addr m.enables data parity).takePrime p data).prime with read := none } })
        (.refl _)
      exact .next ((hdone.settled (State.primeStep_settledAlike _)).layout (State.releasePort_sameLayout _))
    · exact .next (.refl s)
  · exact .next (.refl s)

/-! ### Resets and time -/

theorem execPowerOnReset_settleKept (snap rst : Bool) (s : State) :
    Answers (execPowerOnReset snap rst s) s.SettleKept :=
  .next ((State.fullReset_settleKept s .power).layout (.refl _))

theorem execFullReset_settleKept (s : State) : Answers (execFullReset s) s.SettleKept := by
  unfold execFullReset
  split
  · exact .next ((State.fullReset_settleKept s .lineFull).layout (.refl _))
  · exact .next (.refl s)

theorem execPartialReset_settleKept (s : State) : Answers (execPartialReset s) s.SettleKept := by
  unfold execPartialReset
  split
  · exact .next ((State.partialReset_settleKept s).layout (.refl _))
  · exact .next (.refl s)

theorem execTclkPeriod_settleKept (s : State) : Answers (execTclkPeriod s) s.SettleKept := by
  unfold execTclkPeriod
  split
  · exact .next s.tick_settleKept
  · exact .next (.refl s)

theorem execSettleExpiry_settleKept (s : State) : Answers (execSettleExpiry s) s.SettleKept := by
  unfold execSettleExpiry
  split
  · exact .next (.refl s)
  · next e _ => exact .next ((s.dropEntry_settleKept e.addr).layout (by simp [State.SameLayout]))

/-! ### Frames -/

/-- A frame keeps the Settle Table where the effect of its command does. -/
theorem runFrame_settleKept {spec : FrameSpec} (h : ∀ f u, State.SettleKept u (spec.effect f u).1) (ops : List Byte)
    (act : FrameAct) (s : State) : Answers (.next (runFrame spec ops act s)) s.SettleKept := by
  refine .next ?_
  rcases runFrame_cases spec ops act s with ⟨p, hp⟩ | ⟨f, p, p', hp⟩
  · rw [hp]
    exact .refl s
  · rw [hp]
    exact ((h f { s with port := p }).of_same rfl rfl rfl rfl).layout (.refl _)

theorem plainFrame_settleKept {code : Byte} {effect : List Byte → State → State × ResultCode}
    (h : ∀ ops u, State.SettleKept u (effect ops u).1) (ops : List Byte) (act : FrameAct) (s : State) :
    Answers (.next (runFrame (plainFrame code effect) ops act s)) s.SettleKept :=
  runFrame_settleKept (fun f u => h f.ops u) ops act s

/-- A frame that leaves the layout keeps the Settle Table. -/
theorem plainFrame_settleKept_of_layout {code : Byte} {effect : List Byte → State → State × ResultCode}
    (h : ∀ ops u, State.SameLayout u (effect ops u).1) (ops : List Byte) (act : FrameAct) (s : State) :
    Answers (.next (runFrame (plainFrame code effect) ops act s)) s.SettleKept :=
  plainFrame_settleKept (fun ops u => (h ops u).settleKept) ops act s

theorem Answers.settleKept {o : Host.Outcome State Fault Refusal} {s : State} (h : Answers o s.SameLayout) :
    Answers o s.SettleKept := by
  obtain ⟨t, ht, hlayout⟩ := h
  exact ⟨t, ht, hlayout.settleKept⟩

theorem enableRegionEffect_settleKept (ops : List Byte) (s : State) :
    s.SettleKept (enableRegionEffect ops s).1 := by
  unfold enableRegionEffect
  split
  · exact .refl s
  · exact State.regionCommand_settleKept _ fun r hr => State.enableRegion_settleKept (by simpa using hr)

theorem disableRegionEffect_settleKept (ops : List Byte) (s : State) :
    s.SettleKept (disableRegionEffect ops s).1 := by
  unfold disableRegionEffect
  split
  · exact .refl s
  · exact State.regionCommand_settleKept _ fun r _ => s.disableRegion_settleKept r

theorem releaseRegionEffect_settleKept (ops : List Byte) (s : State) :
    s.SettleKept (releaseRegionEffect ops s).1 := by
  unfold releaseRegionEffect
  split
  · exact .refl s
  · refine State.regionCommand_settleKept _ fun r hr => State.SettledAlike.settleKept ?_
    exact State.setRegion_settledAlike (Region.acting_of_state (.inl (by simpa using hr))) _
      fun q hqr => find_removeExtent hqr s.alloc

theorem setSenseEffect_settleKept (ops : List Byte) (s : State) : s.SettleKept (setSenseEffect ops s).1 := by
  unfold setSenseEffect
  split
  · exact State.regionCommand_settleKept _ fun r _ => s.setSense_settleKept _ _ r
  · exact .refl s

theorem armEffect_settleKept (ops : List Byte) (s : State) : s.SettleKept (armEffect ops s).1 := by
  unfold armEffect
  split
  · exact .refl s
  · split
    · exact .refl s
    · exact s.armMonitor_settleKept

theorem disarmEffect_settleKept (ops : List Byte) (s : State) : s.SettleKept (disarmEffect ops s).1 := by
  unfold disarmEffect
  split
  · exact .refl s
  · exact s.disarmMonitor_settleKept

theorem execBadCommand_settleKept (command : Option Byte) (act : FrameAct) (s : State) :
    Answers (execBadCommand command act s) s.SettleKept := by
  unfold execBadCommand
  split
  · exact .next (.refl s)
  · exact runFrame_settleKept (fun _ u => .refl u) _ act s

/-! ### Every command -/

theorem exec_settleKept (c : Instr) (s : State) : Answers (exec c s) s.SettleKept := by
  cases c with
  | readStatus act => exact runFrame_settleKept (fun _ u => .refl u) [] act s
  | readNotice act => exact runFrame_settleKept (fun f u => (readNoticeFrame_sameLayout f u).settleKept) [] act s
  | clearNotice ops act => exact plainFrame_settleKept_of_layout clearNoticeEffect_sameLayout ops act s
  | setNoticeMask ops act => exact plainFrame_settleKept_of_layout setNoticeMaskEffect_sameLayout ops act s
  | stageRegion ops act => exact plainFrame_settleKept_of_layout stageRegionEffect_sameLayout ops act s
  | commitRegion ops act => exact plainFrame_settleKept commitRegionEffect_settleKept ops act s
  | readRegion ops act => exact runFrame_settleKept (fun f u => (readRegionFrame_sameLayout f u).settleKept) ops act s
  | enableRegion ops act => exact plainFrame_settleKept enableRegionEffect_settleKept ops act s
  | disableRegion ops act => exact plainFrame_settleKept disableRegionEffect_settleKept ops act s
  | releaseRegion ops act => exact plainFrame_settleKept releaseRegionEffect_settleKept ops act s
  | setSense ops act => exact plainFrame_settleKept setSenseEffect_settleKept ops act s
  | clearTrip ops act => exact plainFrame_settleKept clearTripEffect_settleKept ops act s
  | clearCounts ops act => exact plainFrame_settleKept clearCountsEffect_settleKept ops act s
  | setThresholds ops act => exact plainFrame_settleKept setThresholdsEffect_settleKept ops act s
  | loadLink ops act => exact plainFrame_settleKept_of_layout loadLinkEffect_sameLayout ops act s
  | readLink ops act => exact runFrame_settleKept (fun f u => (readLinkFrame_sameLayout f u).settleKept) ops act s
  | startDrain ops act => exact plainFrame_settleKept_of_layout startDrainEffect_sameLayout ops act s
  | startDrainContinue act => exact plainFrame_settleKept_of_layout startDrainEffect_sameLayout [0xFF] act s
  | stopDrain act => exact plainFrame_settleKept_of_layout stopDrainEffect_sameLayout [] act s
  | flush act => exact plainFrame_settleKept_of_layout flushEffect_sameLayout [] act s
  | abortDrain act => exact plainFrame_settleKept_of_layout abortDrainEffect_sameLayout [] act s
  | popEvent act => exact runFrame_settleKept (fun f u => (popEventFrame_sameLayout f u).settleKept) [] act s
  | discardQueue act => exact plainFrame_settleKept_of_layout discardQueueEffect_sameLayout [] act s
  | unloadLink ops act => exact plainFrame_settleKept_of_layout unloadLinkEffect_sameLayout ops act s
  | arm act => exact plainFrame_settleKept armEffect_settleKept [] act s
  | disarm act => exact plainFrame_settleKept disarmEffect_settleKept [] act s
  | resume act => exact plainFrame_settleKept_of_layout resumeEffect_sameLayout [] act s
  | setTimebase ops act => exact plainFrame_settleKept_of_layout setTimebaseEffect_sameLayout ops act s
  | setOptions ops act => exact plainFrame_settleKept_of_layout setOptionsEffect_sameLayout ops act s
  | setShadowPointer ops act => exact plainFrame_settleKept_of_layout setShadowPointerEffect_sameLayout ops act s
  | readShadow ops act => exact runFrame_settleKept (fun f u => (readShadowFrame_sameLayout f u).settleKept) ops act s
  | reset act => exact plainFrame_settleKept (fun _ u => u.fullReset_settleKept .command) [] act s
  | badCommand command act => exact execBadCommand_settleKept command act s
  | masterCycleArrives moe mwe addr enables data parity =>
    exact (execMasterCycleArrives_sameLayout moe mwe addr enables data parity s).settleKept
  | masterCycleWithdrawn => exact .next (endMasterCycle_sameLayout s).settleKept
  | masterCycleEnds => exact .next (endMasterCycle_sameLayout s).settleKept
  | writeGrant => exact (execWriteGrant_sameLayout s).settleKept
  | readGrant => exact (execReadGrant_sameLayout s).settleKept
  | primeGrant => exact execPrimeGrant_settleKept s
  | drainGrant => exact (execDrainGrant_sameLayout s).settleKept
  | writeCompletion => exact execWriteCompletion_settleKept s
  | readCompletion data parity => exact execReadCompletion_settleKept data parity s
  | primeReadCompletion data parity => exact execPrimeReadCompletion_settleKept data parity s
  | drainWriteCompletion => exact (execDrainWriteCompletion_sameLayout s).settleKept
  | recordWriteCompletion => exact (execRecordWriteCompletion_sameLayout s).settleKept
  | padWriteCompletion => exact (execPadWriteCompletion_sameLayout s).settleKept
  | burstEnd => exact (execBurstEnd_sameLayout s).settleKept
  | snapEdge => exact (execSnapEdge_sameLayout s).settleKept
  | snapLineFalls => exact .next (.refl s)
  | powerOnReset snap rst => exact execPowerOnReset_settleKept snap rst s
  | fullReset => exact execFullReset_settleKept s
  | partialReset => exact execPartialReset_settleKept s
  | baseTick => exact .next s.tick_settleKept
  | decayTick => exact (execDecayTick_sameLayout s).settleKept
  | settleExpiry => exact execSettleExpiry_settleKept s
  | flushComplete => exact (execFlushComplete_sameLayout s).settleKept
  | abortCarriedOut => exact (execAbortCarriedOut_sameLayout s).settleKept
  | lossPlacement => exact (execLossPlacement_sameLayout s).settleKept
  | tclkPeriod => exact execTclkPeriod_settleKept s
  | rstLineRises => exact .next (.refl s)

/-- Settles O58: each command keeps the table (`exec_settleKept`), and a step is the command at the front of the queue. -/
theorem stepsKeepSettleTableSound : Obligations.StepsKeepSettleTableSound := by
  intro s t hstep hapart halloc hs
  unfold step at hstep
  split at hstep
  · cases hstep
    exact hs
  · next c rest _ =>
    obtain ⟨u, hu, hkept⟩ := exec_settleKept c { s with pending := rest }
    rw [hu] at hstep
    cases hstep
    exact hkept hapart halloc hs

end Sys2Proof.Machine
end

section
/-! The region commands at the rise of their frame: STAGE_REGION, COMMIT_REGION and the commands on one record. -/

namespace Sys2Proof.Machine

/-! ### The rise of a frame without data -/

/-- A frame without data answers the state its effect leaves, with the frame gone and its result held. -/
theorem finish_of_effect {code : Byte} {effect : List Byte → State → State × ResultCode} {ops : List Byte}
    {s t : State} {result : ResultCode} (h : s.receiving code ops) (given : List Byte)
    (he : effect ops s = (t, result)) :
    Host.Outcome.next (φ := Fault) (ρ := Refusal) (runFrame (plainFrame code effect) given .finish s) =
      .next { t with port := t.port.ended result } := by
  rw [runFrame_plain_finish h, he]

/-! ### STAGE_REGION -/

theorem value24_toNat (b2 b1 b0 : Byte) :
    (value24 b2 b1 b0).toNat = b2.toNat * 65536 + b1.toNat * 256 + b0.toNat := by
  rw [value24, BitVec.toNat_append, BitVec.toNat_append, ← Nat.shiftLeft_add_eq_or_of_lt b0.isLt,
    ← Nat.shiftLeft_add_eq_or_of_lt b1.isLt, Nat.shiftLeft_eq, Nat.shiftLeft_eq]
  omega

theorem wordOf_toNat (hi lo : Byte) : (wordOf hi lo).toNat = hi.toNat * 256 + lo.toNat := by
  rw [wordOf, BitVec.toNat_append, ← Nat.shiftLeft_add_eq_or_of_lt lo.isLt, Nat.shiftLeft_eq]

/-- A three-byte operand as a word address keeps its low 20 bits (R4). -/
theorem value24_setWidth (b2 b1 b0 : Byte) :
    (value24 b2 b1 b0).setWidth 20 = BitVec.ofNat 20 (b2.toNat * 65536 + b1.toNat * 256 + b0.toNat) := by
  rw [← value24_toNat]
  exact BitVec.eq_of_toNat_eq (by simp)

theorem wordOf_eq_ofNat (hi lo : Byte) : wordOf hi lo = BitVec.ofNat 16 (hi.toNat * 256 + lo.toNat) := by
  rw [← wordOf_toNat, BitVec.ofNat_toNat, BitVec.setWidth_eq]

/-- Settles O21: the operands are read by `stagedConfig`, whose values `value24_setWidth` and `wordOf_eq_ofNat` give. -/
theorem stageRegionReplacesStaging : Obligations.StageRegionReplacesStaging := by
  intro s b2 b1 b0 l2 l1 l0 functions r1 r0 f1 f0 settle weight a1 a0 t1 t0 rest hrecv
  refine (finish_of_effect hrecv _ rfl).trans ?_
  simp only [value24_setWidth, wordOf_eq_ofNat, policyOf]

/-! ### COMMIT_REGION -/

theorem RegionConfig.shadowed_iff (c : RegionConfig) : c.shadowed = true ↔ c.watch ∨ c.verify := by
  simp [RegionConfig.shadowed]

/-- The five conditions of R7. -/
theorem RegionConfig.consistent_iff (c : RegionConfig) :
    c.consistent = true ↔ c.base.toNat ≤ c.limit.toNat ∧
      (c.watch ∨ c.verify ∨ c.lock ∨ c.tripThreshold ≠ 0) ∧
      (1 ≤ c.weight.toNat ∧ c.weight.toNat ≤ 15) ∧
      (c.tripThreshold ≠ 0 → c.alertThreshold.toNat ≤ c.tripThreshold.toNat) ∧
      (c.watch ∨ c.verify → c.limit.toNat - c.base.toNat + 1 ≤ 4096) := by
  rw [← c.shadowed_iff]
  simp only [RegionConfig.consistent, Bool.and_eq_true, Bool.or_eq_true,
    Bool.not_eq_true', decide_eq_true_iff, beq_iff_eq, bne_iff_ne, ne_eq, and_assoc, or_assoc,
    Decidable.imp_iff_not_or, Decidable.not_not, Bool.not_eq_true]
  exact Iff.rfl

section
variable {s : State} {index : Byte} {r : Fin 32} (rest : List Byte) (hindex : index.toNat = r.val)
include hindex

theorem commitRegionEffect_badState (henabled : (s.region r).enabled = true) :
    commitRegionEffect (index :: rest) s = (s, .badState) := by
  simp only [commitRegionEffect, regionIndex_of_val hindex, henabled, if_true]

variable (henabled : (s.region r).enabled = false)
include henabled

theorem commitRegionEffect_badRange (hrange : s.staging.consistent = false) :
    commitRegionEffect (index :: rest) s = (s, .badRange) := by
  simp only [commitRegionEffect, regionIndex_of_val hindex, henabled, hrange, Bool.false_eq_true, if_false,
    not_false_eq_true, if_true]

variable (hrange : s.staging.consistent = true)
include hrange

theorem commitRegionEffect_overlap
    (hmeets : s.meetsRegion r s.staging ∨ s.staging.shadowed ∧ s.meetsLiveLink s.staging) :
    commitRegionEffect (index :: rest) s = (s, .overlap) := by
  simp only [commitRegionEffect, regionIndex_of_val hindex, henabled, hrange, Bool.false_eq_true, if_false,
    not_true_eq_false, if_pos hmeets]

variable (hapart : ¬(s.meetsRegion r s.staging ∨ s.staging.shadowed ∧ s.meetsLiveLink s.staging))
include hapart

theorem commitRegionEffect_noShadow (hnone : s.allocate r s.staging = none) :
    commitRegionEffect (index :: rest) s = (s, .noShadow) := by
  simp only [commitRegionEffect, regionIndex_of_val hindex, henabled, hrange, Bool.false_eq_true, if_false,
    not_true_eq_false, if_neg hapart, hnone]

theorem commitRegionEffect_ok {alloc : List Extent} (hsome : s.allocate r s.staging = some alloc) :
    commitRegionEffect (index :: rest) s =
      ({ s.setRegion r (Region.fresh .idle s.staging) with alloc := alloc }, .ok) := by
  simp only [commitRegionEffect, regionIndex_of_val hindex, henabled, hrange, Bool.false_eq_true, if_false,
    not_true_eq_false, if_neg hapart, hsome]

end

theorem State.allocate_shadowed {s : State} {r : Fin 32} {c : RegionConfig} (h : c.shadowed = true) :
    s.allocate r c = (firstFit c.size 0 (removeExtent r s.alloc)).map
      fun first => insertExtent ⟨first, c.size, r⟩ (removeExtent r s.alloc) := by
  simp [State.allocate, h]

theorem State.allocate_plain {s : State} {r : Fin 32} {c : RegionConfig} (h : c.shadowed = false) :
    s.allocate r c = some (removeExtent r s.alloc) := by
  simp [State.allocate, h]

/-- A range clear of the other regions and, with a shadow, of the live buffers passes the overlap check (R8). -/
theorem State.not_overlap {s : State} {r : Fin 32} {c : RegionConfig} (hregions : s.meetsRegion r c = false)
    (hbuffers : c.shadowed = true → s.meetsLiveLink c = false) :
    ¬(s.meetsRegion r c ∨ c.shadowed ∧ s.meetsLiveLink c) := by
  rw [hregions]
  rintro (h | ⟨hshadow, hmeets⟩)
  · cases h
  · rw [hbuffers hshadow] at hmeets
    cases hmeets

/-- Settles O23: one lemma for each result of Table 1-3. -/
theorem commitRegionChecksInOrder : Obligations.CommitRegionChecksInOrder := by
  intro s index rest hrecv answers c consistent
  refine ⟨fun hindex => ?badIndex, fun r hindex => ⟨fun henabled => ?badState, fun henabled =>
    ⟨fun hrange => ?badRange, fun hrange => ⟨fun hmeets => ?overlap,
      fun hapart hbuffers hshadow hnone => ?noShadow⟩⟩⟩⟩
  case badIndex => exact finish_of_effect hrecv _ (by simp only [commitRegionEffect, regionIndex_of_ge hindex])
  case badState => exact finish_of_effect hrecv _ (commitRegionEffect_badState rest hindex henabled)
  case badRange =>
    have hfalse : s.staging.consistent = false :=
      Bool.eq_false_of_not_eq_true fun h => hrange (s.staging.consistent_iff.1 h)
    exact finish_of_effect hrecv _ (commitRegionEffect_badRange rest hindex henabled hfalse)
  case overlap =>
    exact finish_of_effect hrecv _
      (commitRegionEffect_overlap rest hindex henabled (s.staging.consistent_iff.2 hrange) hmeets)
  case noShadow =>
    refine finish_of_effect hrecv _ (commitRegionEffect_noShadow rest hindex henabled
      (s.staging.consistent_iff.2 hrange) (State.not_overlap hapart hbuffers) ?_)
    rw [State.allocate_shadowed hshadow, hnone, Option.map_none]

/-- Two ranges of which one ends before the other begins do not meet. -/
theorem rangesMeet_eq_false {base limit base' limit' : Nat} (h : limit < base' ∨ limit' < base) :
    rangesMeet base limit base' limit' = false := by
  simp only [rangesMeet, Bool.and_eq_false_iff, decide_eq_false_iff_not]
  omega

theorem State.meetsRegion_eq_false {s : State} {r : Fin 32} {c : RegionConfig}
    (h : ∀ i : Fin 32, i ≠ r → (s.region i).committed →
      c.limit.toNat < (s.region i).cfg.base.toNat ∨ (s.region i).cfg.limit.toNat < c.base.toNat) :
    s.meetsRegion r c = false := by
  refine List.any_eq_false.2 fun i _ => ?_
  rw [Bool.and_eq_true, Bool.and_eq_true, decide_eq_true_eq]
  rintro ⟨⟨hne, hcommitted⟩, hmeets⟩
  rw [rangesMeet_eq_false (h i hne hcommitted)] at hmeets
  cases hmeets

theorem Link.liveBuffer_iff (l : Link) : l.liveBuffer = true ↔ l.state = .ready ∨ l.state = .active := by
  simp [Link.liveBuffer]

theorem State.meetsLiveLink_eq_false {s : State} {c : RegionConfig}
    (h : ∀ i : Fin 8, (s.link i).state = .ready ∨ (s.link i).state = .active →
      c.limit.toNat < (s.link i).base.toNat ∨ (s.link i).lastWord < c.base.toNat) :
    s.meetsLiveLink c = false := by
  refine List.any_eq_false.2 fun i _ => ?_
  rw [Bool.and_eq_true, Link.liveBuffer_iff]
  rintro ⟨hlive, hmeets⟩
  rw [rangesMeet_eq_false (h i hlive)] at hmeets
  cases hmeets

theorem Region.enabled_eq_false {x : Region} (h : x.state = .free ∨ x.state = .idle) : x.enabled = false := by
  rcases h with h | h <;> simp [Region.enabled, h]

/-- Settles O22: the five checks pass, and the allocation is the first fit or, without a shadow, the list without the
region's entry. -/
theorem commitRegionInstallsStaging : Obligations.CommitRegionInstallsStaging := by
  intro s index r rest hrecv hindex hstate hrange hfunction hlow hhigh hthresholds hregions hshadow others size installed
  have henabled := Region.enabled_eq_false hstate
  have hconsistent := s.staging.consistent_iff.2
    ⟨hrange, hfunction, ⟨hlow, hhigh⟩, hthresholds, fun h => (hshadow h).1⟩
  have hbuffers : s.staging.shadowed = true → s.meetsLiveLink s.staging = false := fun h =>
    State.meetsLiveLink_eq_false (hshadow (s.staging.shadowed_iff.1 h)).2
  have hapart := State.not_overlap (State.meetsRegion_eq_false hregions) hbuffers
  have hcommit : ∀ alloc, s.allocate r s.staging = some alloc →
      exec (.commitRegion (index :: rest) .finish) s = .next (installed alloc) := fun alloc halloc =>
    finish_of_effect hrecv _ (commitRegionEffect_ok rest hindex henabled hconsistent hapart halloc)
  refine ⟨fun hsh first hfirst => hcommit _ ?_, fun hplain => hcommit _ ?_⟩
  · rw [State.allocate_shadowed (s.staging.shadowed_iff.2 hsh)]
    exact congrArg (Option.map _) hfirst
  · exact State.allocate_plain (Bool.eq_false_of_not_eq_true fun h => hplain (s.staging.shadowed_iff.1 h))

end Sys2Proof.Machine
end

section
/-! The commands on one record: what they refuse, and what they change. -/

namespace Sys2Proof.Machine

/-! ### Refusals -/

theorem State.regionCommand_badIndex {s : State} {index : Byte} (h : 32 ≤ index.toNat) (allowed : Region → Bool)
    (effect : Fin 32 → State) : s.regionCommand index allowed effect = (s, .badIndex) := by
  rw [State.regionCommand, regionIndex_of_ge h]

theorem State.regionCommand_ok {s : State} {index : Byte} {r : Fin 32} (h : index.toNat = r.val)
    {allowed : Region → Bool} (ha : allowed (s.region r) = true) (effect : Fin 32 → State) :
    s.regionCommand index allowed effect = (effect r, .ok) := by
  simp only [State.regionCommand, regionIndex_of_val h, ha, if_true]

theorem State.regionCommand_badState {s : State} {index : Byte} {r : Fin 32} (h : index.toNat = r.val)
    {allowed : Region → Bool} (ha : allowed (s.region r) = false) (effect : Fin 32 → State) :
    s.regionCommand index allowed effect = (s, .badState) := by
  simp only [State.regionCommand, regionIndex_of_val h, ha, Bool.false_eq_true, if_false]

theorem enableRegionEffect_cons (index : Byte) (rest : List Byte) (s : State) :
    enableRegionEffect (index :: rest) s = s.regionCommand index (fun x => x.state == .idle) s.enableRegion := rfl

theorem disableRegionEffect_cons (index : Byte) (rest : List Byte) (s : State) :
    disableRegionEffect (index :: rest) s = s.regionCommand index Region.enabled s.disableRegion := rfl

theorem releaseRegionEffect_cons (index : Byte) (rest : List Byte) (s : State) :
    releaseRegionEffect (index :: rest) s = s.regionCommand index (fun x => x.state == .idle) s.releaseRegion := rfl

theorem setSenseEffect_cons (index r1 r0 f1 f0 : Byte) (rest : List Byte) (s : State) :
    setSenseEffect (index :: r1 :: r0 :: f1 :: f0 :: rest) s =
      s.regionCommand index Region.committed (s.setSense (wordOf r1 r0) (wordOf f1 f0)) := rfl

theorem clearTripEffect_cons (index : Byte) (rest : List Byte) (s : State) :
    clearTripEffect (index :: rest) s = s.regionCommand index Region.committed s.clearTrip := rfl

theorem clearCountsEffect_cons (index : Byte) (rest : List Byte) (s : State) :
    clearCountsEffect (index :: rest) s = s.regionCommand index Region.committed s.clearCounts := rfl

section
variable {code index : Byte} {ops : List Byte} {s : State} {effect : List Byte → State → State × ResultCode}
  {allowed : Region → Bool} {change : Fin 32 → State} (h : s.receiving code (index :: ops)) (given : List Byte)
  (he : effect (index :: ops) s = s.regionCommand index allowed change)
include h he

theorem finish_region_badIndex (hi : 32 ≤ index.toNat) :
    Host.Outcome.next (φ := Fault) (ρ := Refusal) (runFrame (plainFrame code effect) given .finish s) =
      .next (s.frameEnded .badIndex) :=
  finish_of_effect h given (he.trans (State.regionCommand_badIndex hi _ _))

theorem finish_region_badState {r : Fin 32} (hi : index.toNat = r.val) (ha : allowed (s.region r) = false) :
    Host.Outcome.next (φ := Fault) (ρ := Refusal) (runFrame (plainFrame code effect) given .finish s) =
      .next (s.frameEnded .badState) :=
  finish_of_effect h given (he.trans (State.regionCommand_badState hi ha _))

theorem finish_region_ok {r : Fin 32} (hi : index.toNat = r.val) (ha : allowed (s.region r) = true) :
    Host.Outcome.next (φ := Fault) (ρ := Refusal) (runFrame (plainFrame code effect) given .finish s) =
      .next { change r with port := (change r).port.ended .ok } :=
  finish_of_effect h given (he.trans (State.regionCommand_ok hi ha _))

end

/-- The records a command on one record allows, by its code (R10, R13, R14, R19 to R22). -/
def regionAllowed (code : Byte) (x : Region) : Bool :=
  if code = 0x13 ∨ code = 0x15 then x.state == .idle
  else if code = 0x14 then x.enabled
  else x.committed

theorem regionAllowed_eq_false {code : Byte} {x : Region}
    (h : (code = 0x13 ∨ code = 0x15) ∧ x.state ≠ .idle ∨
      code = 0x14 ∧ (x.state = .free ∨ x.state = .idle) ∨ x.state = .free) : regionAllowed code x = false := by
  unfold regionAllowed
  rcases h with ⟨hcode, hstate⟩ | ⟨rfl, hstate⟩ | hstate
  · rw [if_pos hcode]
    exact beq_false_of_ne hstate
  · exact Region.enabled_eq_false hstate
  · simp [Region.enabled, Region.committed, hstate]

theorem setThresholdsEffect_badIndex {s : State} {index a1 a0 t1 t0 : Byte} (rest : List Byte)
    (h : 32 ≤ index.toNat) : setThresholdsEffect (index :: a1 :: a0 :: t1 :: t0 :: rest) s = (s, .badIndex) := by
  simp only [setThresholdsEffect, regionIndex_of_ge h]

theorem setThresholdsEffect_badState {s : State} {index a1 a0 t1 t0 : Byte} {r : Fin 32} (rest : List Byte)
    (h : index.toNat = r.val) (hfree : (s.region r).state = .free) :
    setThresholdsEffect (index :: a1 :: a0 :: t1 :: t0 :: rest) s = (s, .badState) := by
  simp only [setThresholdsEffect, regionIndex_of_val h, hfree, if_true]

theorem Region.committed_of_ne_free {x : Region} (h : x.state ≠ .free) : x.committed = true := by
  simp [Region.committed, h]

/-- The operands of a command that takes five. -/
theorem exists_five_operands {code index : Byte} {ops : List Byte} (h5 : operandBytes code = 5)
    (hlen : operandBytes code ≤ (index :: ops).length) : ∃ b3 b2 b1 b0 rest, ops = b3 :: b2 :: b1 :: b0 :: rest := by
  rw [h5] at hlen
  match ops, hlen with
  | b3 :: b2 :: b1 :: b0 :: rest, _ => exact ⟨b3, b2, b1, b0, rest, rfl⟩

/-- A command on one record refuses an index out of range and a record it does not allow, and changes nothing but the
result. -/
theorem exec_region_refused {s : State} {code index : Byte} {ops : List Byte}
    (hcode : code ∈ [0x13, 0x14, 0x15, 0x16, 0x17, 0x18, 0x19])
    (hlen : operandBytes code ≤ (index :: ops).length) (hrecv : s.receiving code (index :: ops)) :
    (32 ≤ index.toNat → exec (decodeFrame (code :: index :: ops) .finish) s = .next (s.frameEnded .badIndex)) ∧
    ∀ r : Fin 32, index.toNat = r.val → regionAllowed code (s.region r) = false →
      exec (decodeFrame (code :: index :: ops) .finish) s = .next (s.frameEnded .badState) := by
  have refused : ∀ {effect : List Byte → State → State × ResultCode} {allowed change},
      effect (index :: ops) s = s.regionCommand index allowed change →
      (∀ x, regionAllowed code x = allowed x) →
      exec (decodeFrame (code :: index :: ops) .finish) s =
        .next (runFrame (plainFrame code effect) (index :: ops) .finish s) →
      (32 ≤ index.toNat → exec (decodeFrame (code :: index :: ops) .finish) s = .next (s.frameEnded .badIndex)) ∧
      ∀ r : Fin 32, index.toNat = r.val → regionAllowed code (s.region r) = false →
        exec (decodeFrame (code :: index :: ops) .finish) s = .next (s.frameEnded .badState) := by
    intro effect allowed change he hallowed hexec
    exact ⟨fun h => hexec.trans (finish_region_badIndex hrecv _ he h),
      fun r h ha => hexec.trans (finish_region_badState hrecv _ he h ((hallowed _).symm.trans ha))⟩
  simp only [List.mem_cons, List.not_mem_nil, or_false] at hcode
  rcases hcode with rfl | rfl | rfl | rfl | rfl | rfl | rfl
  · exact refused (enableRegionEffect_cons index ops s) (fun _ => rfl) rfl
  · exact refused (disableRegionEffect_cons index ops s) (fun _ => rfl) rfl
  · exact refused (releaseRegionEffect_cons index ops s) (fun _ => rfl) rfl
  · obtain ⟨r1, r0, f1, f0, rest, rfl⟩ := exists_five_operands rfl hlen
    exact refused (setSenseEffect_cons index r1 r0 f1 f0 rest s) (fun _ => rfl) rfl
  · exact refused (clearTripEffect_cons index ops s) (fun _ => rfl) rfl
  · exact refused (clearCountsEffect_cons index ops s) (fun _ => rfl) rfl
  · obtain ⟨a1, a0, t1, t0, rest, rfl⟩ := exists_five_operands rfl hlen
    refine ⟨fun h => finish_of_effect hrecv _ (setThresholdsEffect_badIndex rest h),
      fun r h ha => finish_of_effect hrecv _ (setThresholdsEffect_badState rest h ?_)⟩
    exact Decidable.not_not.1 fun hne => Bool.false_ne_true (ha.symm.trans (Region.committed_of_ne_free hne))

/-- Settles O28: `exec_region_refused`, with the records each code allows. -/
theorem regionCommandsRefuse : Obligations.RegionCommandsRefuse := by
  intro s code index ops hcode hlen hrecv
  obtain ⟨hindex, hstate⟩ := exec_region_refused hcode hlen hrecv
  exact ⟨hindex, fun r h hrefused => hstate r h (regionAllowed_eq_false hrefused)⟩

/-! ### RELEASE_REGION, SET_SENSE, CLEAR_TRIP and CLEAR_COUNTS -/

/-- Settles O27: each effect is its update of the record, by definition. -/
theorem regionMaintenanceCommands : Obligations.RegionMaintenanceCommands := by
  intro s index r rest hindex
  refine ⟨fun hrecv hidle => ?_, fun r1 r0 f1 f0 hrecv hfree => ?_, fun hrecv hfree => ?_, fun hrecv hfree => ?_⟩
  · exact finish_region_ok hrecv _ (releaseRegionEffect_cons index rest s) hindex (by rw [hidle]; rfl)
  · exact finish_region_ok hrecv _ (setSenseEffect_cons index r1 r0 f1 f0 rest s) hindex
      (Region.committed_of_ne_free hfree)
  · exact finish_region_ok hrecv _ (clearTripEffect_cons index rest s) hindex
      (Region.committed_of_ne_free hfree)
  · exact finish_region_ok hrecv _ (clearCountsEffect_cons index rest s) hindex
      (Region.committed_of_ne_free hfree)

/-! ### SET_THRESHOLDS -/

/-- A trip threshold at or below the accumulator latches an open trip (R93, R100). -/
theorem State.judgeTrip_crossed {s : State} {r : Fin 32} (a : Option Addr)
    (h : (s.region r).cfg.tripThreshold.toNat ≤ (s.region r).accumulator.toNat)
    (hlatch : (s.region r).tripLatch = false) :
    s.judgeTrip r a = ((s.modRegion r fun y => { y with tripLatch := true }).setNotice .trip).produce
      { kind := .trip, region := some r, addr := a, valueA := (s.region r).accumulator
        valueB := (s.region r).cfg.tripThreshold } :=
  if_pos ⟨h, hlatch⟩

theorem State.judgeTrip_not_crossed {s : State} {r : Fin 32} (a : Option Addr)
    (h : ¬((s.region r).cfg.tripThreshold.toNat ≤ (s.region r).accumulator.toNat ∧
      (s.region r).tripLatch = false)) : s.judgeTrip r a = s :=
  if_neg h

theorem setThresholdsEffect_badRange {s : State} {index a1 a0 t1 t0 : Byte} {r : Fin 32} (rest : List Byte)
    (h : index.toNat = r.val) (hfree : (s.region r).state ≠ .free)
    (hfit : (s.region r).cfg.thresholdsFit (wordOf a1 a0) (wordOf t1 t0) = false) :
    setThresholdsEffect (index :: a1 :: a0 :: t1 :: t0 :: rest) s = (s, .badRange) := by
  simp only [setThresholdsEffect, regionIndex_of_val h, hfree, hfit, Bool.false_eq_true, if_false]

theorem setThresholdsEffect_ok {s : State} {index a1 a0 t1 t0 : Byte} {r : Fin 32} (rest : List Byte)
    (h : index.toNat = r.val) (hfree : (s.region r).state ≠ .free)
    (hfit : (s.region r).cfg.thresholdsFit (wordOf a1 a0) (wordOf t1 t0) = true) :
    setThresholdsEffect (index :: a1 :: a0 :: t1 :: t0 :: rest) s =
      (s.setThresholds (wordOf a1 a0) (wordOf t1 t0) r, .ok) := by
  simp only [setThresholdsEffect, regionIndex_of_val h, hfree, hfit, if_false, if_true]

/-- A trip threshold of 0 needs another function; a nonzero one holds the alert threshold below it (R20). -/
theorem RegionConfig.thresholdsFit_eq_false {c : RegionConfig} {alert trip : Word}
    (h : trip ≠ 0 ∧ trip.toNat < alert.toNat ∨
      trip = 0 ∧ c.watch = false ∧ c.verify = false ∧ c.lock = false) : c.thresholdsFit alert trip = false := by
  rcases h with ⟨hne, hlt⟩ | ⟨rfl, hw, hv, hl⟩
  · rw [RegionConfig.thresholdsFit, if_neg hne]
    exact decide_eq_false (Nat.not_le.2 hlt)
  · simp [RegionConfig.thresholdsFit, hw, hv, hl]

theorem State.setThresholds_zero (s : State) (alert : Word) (r : Fin 32) :
    s.setThresholds alert 0 r = { s with regions := s.regions.set r { s.region r with
      cfg := { (s.region r).cfg with alertThreshold := alert, tripThreshold := 0 }
      accumulator := 0, alertFlag := false, tripLatch := false } } := by
  simp [State.setThresholds, State.modRegion, State.setRegion, Region.clearIntegrator]

/-- The record with its new thresholds, before the judgements (R20). -/
def State.thresholdsSet (s : State) (alert trip : Word) (r : Fin 32) : State :=
  s.modRegion r fun x => { x with cfg := { x.cfg with alertThreshold := alert, tripThreshold := trip } }

theorem State.setThresholds_nonzero {s : State} {alert trip : Word} {r : Fin 32} (h : trip ≠ 0) :
    s.setThresholds alert trip r =
      (((s.thresholdsSet alert trip r).judgeTrip r none).modRegion r Region.rejudgeAlert).arbitrate :=
  if_neg h

end Sys2Proof.Machine
end

section
/-! SET_THRESHOLDS judges the integrator against its new thresholds (R20, R100). -/

namespace Sys2Proof.Machine

/-- The trip judgement latches the trip of its region where the threshold is at or below the accumulator, and leaves
the rest of the record. -/
theorem State.judgeTrip_region (s : State) (r : Fin 32) (a : Option Addr) :
    (s.judgeTrip r a).region r = { s.region r with
      tripLatch := (s.region r).tripLatch ||
        decide ((s.region r).cfg.tripThreshold.toNat ≤ (s.region r).accumulator.toNat) } := by
  by_cases hlatch : (s.region r).tripLatch = true
  · rw [State.judgeTrip_not_crossed a fun h => Bool.false_ne_true (h.2.symm.trans hlatch), hlatch, Bool.true_or,
      ← hlatch]
  · rw [Bool.not_eq_true] at hlatch
    by_cases hreached : (s.region r).cfg.tripThreshold.toNat ≤ (s.region r).accumulator.toNat
    · rw [State.judgeTrip_crossed a hreached hlatch]
      simp_all
    · rw [State.judgeTrip_not_crossed a fun h => hreached h.1, decide_eq_false hreached, Bool.or_false]

theorem State.judgeTrip_region_other (s : State) {r q : Fin 32} (h : q ≠ r) (a : Option Addr) :
    (s.judgeTrip r a).region q = s.region q := by
  unfold State.judgeTrip
  dsimp only
  split <;> simp [Ne.symm h]

/-- A producer's record leaves a set flag set. -/
theorem State.produce_noticeSet {s : State} {n : Notice} (h : s.noticeSet n = true) (b : Report) :
    (s.produce b).noticeSet n = true := by
  unfold State.produce
  split
  · exact State.createRecord_noticeSet h b
  · exact h

theorem State.produce_queue_of_ne_run {s : State} (h : s.monitor.state ≠ .run) (b : Report) :
    (s.produce b).queue = s.queue := by
  rw [State.produce, if_neg h]

theorem State.produce_records_room {s : State} (hrun : s.monitor.state = .run) (hroom : s.queue.records.length < 64)
    (b : Report) : (s.produce b).queue.records =
      s.queue.records ++ [Record.make b s.time.stamp s.queue.nextSeq] := by
  rw [State.produce, if_pos hrun, State.createRecord_queue_room hroom]

/-- A latched trip sets its notice and, in RUN with room, creates the TRIP record (R93, R100). -/
theorem State.judgeTrip_crossed_records {s : State} {r : Fin 32} (a : Option Addr)
    (h : (s.region r).cfg.tripThreshold.toNat ≤ (s.region r).accumulator.toNat)
    (hlatch : (s.region r).tripLatch = false) :
    (s.judgeTrip r a).noticeSet .trip = true ∧
    (s.monitor.state ≠ .run → (s.judgeTrip r a).queue = s.queue) ∧
    (s.monitor.state = .run → s.depth < 64 → (s.judgeTrip r a).queue.records = s.queue.records ++
      [Record.make { kind := .trip, region := some r, addr := a, valueA := (s.region r).accumulator
                     valueB := (s.region r).cfg.tripThreshold } s.time.stamp s.queue.nextSeq]) := by
  rw [State.judgeTrip_crossed a h hlatch]
  exact ⟨State.produce_noticeSet (State.setNotice_noticeSet _ _) _,
    fun hne => State.produce_queue_of_ne_run (by exact hne) _,
    fun hrun hroom => State.produce_records_room (by exact hrun) (by exact hroom) _⟩

/-- The record of a region with new thresholds. -/
theorem State.thresholdsSet_region (s : State) (alert trip : Word) (r : Fin 32) :
    (s.thresholdsSet alert trip r).region r =
      { s.region r with cfg := { (s.region r).cfg with alertThreshold := alert, tripThreshold := trip } } := by
  simp [State.thresholdsSet]

theorem State.thresholdsSet_region_other (s : State) (alert trip : Word) {r q : Fin 32} (h : q ≠ r) :
    (s.thresholdsSet alert trip r).region q = s.region q := by
  simp [State.thresholdsSet, Ne.symm h]

/-- A region with a nonzero trip threshold: the trip latched at or above it, the alert flag kept only at or above a
nonzero alert threshold. -/
theorem State.setThresholds_region {s : State} {alert trip : Word} {r : Fin 32} (h : trip ≠ 0) :
    (s.setThresholds alert trip r).region r = { s.region r with
      cfg := { (s.region r).cfg with alertThreshold := alert, tripThreshold := trip }
      tripLatch := (s.region r).tripLatch || decide (trip.toNat ≤ (s.region r).accumulator.toNat)
      alertFlag := (s.region r).alertFlag && decide (alert ≠ 0) &&
        decide (alert.toNat ≤ (s.region r).accumulator.toNat) } := by
  rw [State.setThresholds_nonzero h]
  have hjudged := State.judgeTrip_region (s.thresholdsSet alert trip r) r none
  rw [State.thresholdsSet_region] at hjudged
  have hrejudged : ∀ u : State, (u.modRegion r Region.rejudgeAlert).arbitrate.region r =
      Region.rejudgeAlert (u.region r) := by
    intro u
    simp
  rw [hrejudged, hjudged]
  simp [Region.rejudgeAlert, Bool.and_assoc, bne, beq_eq_decide]

theorem State.setThresholds_region_other {s : State} {alert trip : Word} {r q : Fin 32} (h : trip ≠ 0)
    (hq : q ≠ r) : (s.setThresholds alert trip r).region q = s.region q := by
  have hjudged := (State.judgeTrip_region_other (s.thresholdsSet alert trip r) hq none).trans
    (State.thresholdsSet_region_other s alert trip hq)
  rw [State.setThresholds_nonzero h, ← hjudged]
  simp [Ne.symm hq]

/-- Queue and notices after new thresholds are those of the trip judgement. -/
theorem State.setThresholds_records {s : State} {alert trip : Word} {r : Fin 32} (h : trip ≠ 0) :
    (s.setThresholds alert trip r).queue = ((s.thresholdsSet alert trip r).judgeTrip r none).queue ∧
    (s.setThresholds alert trip r).notices = ((s.thresholdsSet alert trip r).judgeTrip r none).notices := by
  rw [State.setThresholds_nonzero h]
  simp

theorem State.setThresholds_frame {s : State} {alert trip : Word} {r : Fin 32} (h : trip ≠ 0) :
    let t := s.setThresholds alert trip r
    t.path = s.path ∧ t.staging = s.staging ∧ t.shadow = s.shadow ∧ t.alloc = s.alloc ∧
      t.shadowPointer = s.shadowPointer ∧ t.prime = s.prime ∧ t.settle = s.settle ∧ t.drain = s.drain ∧
      t.monitor = s.monitor ∧ t.time = s.time := by
  rw [State.setThresholds_nonzero h]
  simp [State.thresholdsSet]

/-- Settles O29: the record by `setThresholds_region`, queue and notices by the trip judgement. -/
theorem setThresholdsJudgesTheIntegrator : Obligations.SetThresholdsJudgesTheIntegrator := by
  intro s index a1 a0 t1 t0 r rest hrecv hindex hfree x alert trip run set
  refine ⟨fun hfit => ?badRange, fun hzero hfunction => ?zero, fun hne hle => ?judged⟩
  case badRange =>
    exact finish_of_effect hrecv _
      (setThresholdsEffect_badRange rest hindex hfree (RegionConfig.thresholdsFit_eq_false hfit))
  case zero =>
    have hfit : x.cfg.thresholdsFit alert trip = true := by
      rw [RegionConfig.thresholdsFit, if_pos hzero]
      simpa [or_assoc] using hfunction
    refine (finish_of_effect hrecv _ (setThresholdsEffect_ok rest hindex hfree hfit)).trans ?_
    rw [show wordOf t1 t0 = 0 from hzero, State.setThresholds_zero]
    simp only [set, show trip = 0 from hzero]
    rfl
  case judged =>
    have hfit : x.cfg.thresholdsFit alert trip = true := by
      rw [RegionConfig.thresholdsFit, if_neg hne]
      exact decide_eq_true hle
    obtain ⟨hqueue, hnotices⟩ := State.setThresholds_records (s := s) (alert := alert) (r := r) hne
    have hset := s.thresholdsSet_region alert trip r
    refine ⟨_, finish_of_effect hrecv _ (setThresholdsEffect_ok rest hindex hfree hfit), rfl,
      State.setThresholds_region hne, fun i hi => State.setThresholds_region_other hne hi, fun hnot => ?_,
      fun hlatch hreached => ?_, ?_⟩
    · have hstill := State.judgeTrip_not_crossed (s := s.thresholdsSet alert trip r) none
        (by rw [hset]; exact fun h => hnot ⟨h.2, h.1⟩)
      rw [hstill] at hqueue hnotices
      exact ⟨hqueue, hnotices⟩
    · obtain ⟨hnotice, hidle, hrecord⟩ := State.judgeTrip_crossed_records (s := s.thresholdsSet alert trip r) none
        (by rw [hset]; exact hreached) (by rw [hset]; exact hlatch)
      rw [hset] at hrecord
      refine ⟨?_, fun h => hqueue.trans (hidle h), fun hrun hroom => ?_⟩
      · rw [State.noticeSet, ← hnotices] at hnotice
        exact hnotice
      · exact (congrArg EventQueue.records hqueue).trans (hrecord hrun hroom)
    · exact State.setThresholds_frame hne

end Sys2Proof.Machine
end

section
/-! The Prime Engine's steps (R56, R57), and the commands that start and stop regions: ENABLE_REGION, DISABLE_REGION, ARM
and DISARM. -/

namespace Sys2Proof.Machine

/-! ### The Prime Engine -/

/-- No region is in PRIMING: the engine serves none and claims nothing. -/
theorem primeSteps_none (n : Nat) {s : State} (h : s.lowestPriming = none) :
    primeSteps n s = { s with prime := { s.prime with served := none, claim := false } } := by
  cases n with
  | zero => rfl
  | succ n => simp only [primeSteps, h]

/-- The lowest region in PRIMING has an invalid word at or above its cursor: the engine claims for it. -/
theorem primeSteps_claims (n : Nat) {s : State} {r : Fin 32} {k : Nat} (h : s.lowestPriming = some r)
    (hk : s.firstInvalid r (s.region r).primeCursor = some k) :
    primeSteps (n + 1) s = { s with prime := { s.prime with served := some r, claim := true } } := by
  simp only [primeSteps, h, hk]

theorem State.primeStep_of_none {s : State} (h : s.prime.read = none) : s.primeStep = primeSteps 33 s := by
  simp only [State.primeStep, h, Option.isSome_none, Bool.false_eq_true, if_false]

theorem State.primeStep_of_read {s : State} (h : s.prime.read.isSome = true) : s.primeStep = s := by
  simp only [State.primeStep, h, if_true]

/-- The engine's search finds a region exactly when one is in PRIMING. -/
theorem State.lowestPriming_eq_none_iff (s : State) :
    s.lowestPriming = none ↔ ∀ r : Fin 32, (s.region r).state ≠ .priming := by
  simp [State.lowestPriming, List.find?_eq_none]

theorem State.priming_of_lowestPriming {s : State} {r : Fin 32} (h : s.lowestPriming = some r) :
    (s.region r).state = .priming := by
  simpa using List.find?_some h

/-- The only region in PRIMING is the lowest. -/
theorem State.lowestPriming_of_unique {s : State} {r : Fin 32} (h : (s.region r).state = .priming)
    (hr : ∀ q : Fin 32, (s.region q).state = .priming → q = r) : s.lowestPriming = some r := by
  cases hl : s.lowestPriming with
  | none => exact absurd h ((State.lowestPriming_eq_none_iff s).1 hl r)
  | some q => rw [hr q (State.priming_of_lowestPriming hl)]

/-- The first word of an extent is the first invalid one where it is invalid. -/
theorem State.firstInvalid_zero {s : State} {r : Fin 32} {e : Extent} (he : s.extentOf r = some e)
    (hnone : shadowGet s.shadow e.first = none) : s.firstInvalid r 0 = some 0 := by
  simp [State.firstInvalid, he, RegionConfig.size, List.range'_succ, hnone]

/-- From `s` to `u` only records in PRIMING changed, and no configuration did. -/
def State.PrimedOnly (s u : State) : Prop :=
  ∀ q, (u.region q).cfg = (s.region q).cfg ∧ ((s.region q).state ≠ .priming → u.region q = s.region q)

theorem State.PrimedOnly.of_regions {s u : State} (h : u.regions = s.regions) : s.PrimedOnly u :=
  fun q => ⟨by rw [State.region, h, State.region], fun _ => by rw [State.region, h, State.region]⟩

theorem State.PrimedOnly.trans {s t u : State} (h : s.PrimedOnly t) (h' : t.PrimedOnly u) : s.PrimedOnly u := by
  intro q
  obtain ⟨hcfg, hkept⟩ := h q
  obtain ⟨hcfg', hkept'⟩ := h' q
  exact ⟨hcfg'.trans hcfg, fun hq => (hkept' (by rwa [hkept hq])).trans (hkept hq)⟩

theorem State.modRegion_primedOnly {s : State} {r : Fin 32} (h : (s.region r).state = .priming)
    {f : Region → Region} (hf : (f (s.region r)).cfg = (s.region r).cfg) : s.PrimedOnly (s.modRegion r f) := by
  intro q
  rw [State.region_modRegion]
  split
  · next hqr =>
    subst hqr
    exact ⟨hf, fun hq => absurd h hq⟩
  · exact ⟨rfl, fun _ => rfl⟩

theorem State.completePriming_primedOnly {s : State} {r : Fin 32} (h : (s.region r).state = .priming) :
    s.PrimedOnly (s.completePriming r) :=
  (State.modRegion_primedOnly (f := fun x => { x with state := .live, primeCursor := x.cfg.size }) h rfl).trans
    (.of_regions (by simp [State.completePriming]))

/-- The engine's steps change only records in PRIMING, and no configuration. -/
theorem primeSteps_primedOnly (n : Nat) (s : State) : s.PrimedOnly (primeSteps n s) := by
  induction n generalizing s with
  | zero => exact .of_regions rfl
  | succ n ih =>
    unfold primeSteps
    split
    · exact .of_regions rfl
    · next r hr =>
      have hpriming := State.priming_of_lowestPriming hr
      dsimp only
      have hserving : s.PrimedOnly { s with prime := { s.prime with served := some r } } := .of_regions rfl
      split
      · exact hserving
      · have hrescanned := hserving.trans (State.modRegion_primedOnly
          (s := { s with prime := { s.prime with served := some r } })
          (f := fun x => { x with primeCursor := x.cfg.size }) hpriming rfl)
        split
        · exact hrescanned
        · have hcompleted := hrescanned.trans (State.completePriming_primedOnly (by
            rw [State.region_modRegion, if_pos rfl]
            exact hpriming))
          exact hcompleted.trans (ih _)

theorem State.primeStep_primedOnly (s : State) : s.PrimedOnly s.primeStep := by
  unfold State.primeStep
  split
  · exact .of_regions rfl
  · exact primeSteps_primedOnly 33 s

theorem State.primeLeft_primedOnly (s : State) : s.PrimedOnly s.primeLeft := by
  unfold State.primeLeft
  split
  · exact s.primeStep_primedOnly
  · exact .of_regions rfl

theorem State.primeLeft_of_read {s : State} (h : s.prime.read.isSome = true) : s.primeLeft = s := by
  unfold State.primeLeft
  split
  · exact State.primeStep_of_read h
  · rfl

/-! ### ENABLE_REGION -/

theorem State.activate_plain {x : Region} (h : x.cfg.shadowed = false) : x.activate = { x with state := .live } := by
  rw [Region.activate, h]
  rfl

theorem State.activate_shadowed {x : Region} (h : x.cfg.shadowed = true) : x.activate = x.enterPriming := by
  rw [Region.activate, h]
  rfl

theorem State.enableRegion_standby {s : State} (h : s.monitor.state = .standby) (r : Fin 32) :
    s.enableRegion r = s.modRegion r fun x => { x with state := .held } :=
  if_pos h

theorem State.enableRegion_plain {s : State} {r : Fin 32} (h : s.monitor.state ≠ .standby)
    (hplain : (s.region r).cfg.shadowed = false) :
    s.enableRegion r = (s.modRegion r fun x => { x with state := .live }).arbitrate := by
  simp only [State.enableRegion, if_neg h, hplain, Bool.false_eq_true, if_false, State.modRegion,
    State.activate_plain hplain]

/-- The engine begins with the region that enters PRIMING alone, at the first word of its extent (R11, R57). -/
theorem State.enableRegion_shadowed {s : State} {r : Fin 32} (h : s.monitor.state ≠ .standby)
    (hshadowed : (s.region r).cfg.shadowed = true) (hothers : ∀ i : Fin 32, (s.region i).state ≠ .priming)
    (hread : s.prime.read = none) {e : Extent} (he : s.extentOf r = some e)
    (hword : shadowGet s.shadow e.first = none) :
    s.enableRegion r = ({ s.modRegion r Region.enterPriming with
      prime := { s.prime with served := some r, claim := true } } : State).arbitrate := by
  have hactive : s.modRegion r Region.activate = s.modRegion r Region.enterPriming := by
    rw [State.modRegion, State.activate_shadowed hshadowed, State.modRegion]
  have hlowest : (s.modRegion r Region.enterPriming).lowestPriming = some r := by
    refine State.lowestPriming_of_unique (by rw [State.region_modRegion, if_pos rfl]; rfl) fun q hq => ?_
    by_contra hne
    rw [State.region_modRegion, if_neg (Ne.symm hne)] at hq
    exact hothers q hq
  have hinvalid : (s.modRegion r Region.enterPriming).firstInvalid r
      ((s.modRegion r Region.enterPriming).region r).primeCursor = some 0 := by
    rw [State.region_modRegion, if_pos rfl]
    exact State.firstInvalid_zero (by exact he) hword
  simp only [State.enableRegion, if_neg h, hshadowed, if_true, hactive]
  rw [State.primeStep_of_none (by exact hread), primeSteps_claims 32 hlowest hinvalid]
  rfl

/-- Settles O25: HELD, LIVE at once, or PRIMING with the engine's claim. -/
theorem enableRegionLeavesIdle : Obligations.EnableRegionLeavesIdle := by
  intro s index r rest hrecv hindex hidle
  have hrun := finish_region_ok hrecv (index :: rest) (enableRegionEffect_cons index rest s) hindex
    (by rw [hidle]; rfl)
  refine ⟨fun hstandby => ?_, fun hactive hwatch hverify => ⟨_, hrun, ?_⟩,
    fun hactive hshadow hothers hread ⟨e, he, hword⟩ => ⟨_, hrun, ?_⟩⟩
  · refine hrun.trans ?_
    rw [State.enableRegion_standby hstandby]
    rfl
  · rw [State.enableRegion_plain hactive (by rw [RegionConfig.shadowed, hwatch, hverify]; rfl), State.arbitrate_eq]
    rfl
  · rw [State.enableRegion_shadowed hactive ((s.region r).cfg.shadowed_iff.2 hshadow) hothers hread he hword,
      State.arbitrate_eq, ← hread]
    rfl

/-! ### DISABLE_REGION -/

/-- The region gone IDLE, before the Prime Engine moves on (R13). -/
def State.leftIdle (s : State) (r : Fin 32) : State :=
  ((s.invalidate r).dropEntries r).modRegion r fun x => { x.clearIntegrator with state := .idle }

theorem State.disableRegion_priming {s : State} {r : Fin 32} (h : (s.region r).state = .priming) :
    s.disableRegion r = (((s.leftIdle r).cancelRead fun q => q == r).primeLeft).arbitrate :=
  if_pos h

theorem State.disableRegion_other {s : State} {r : Fin 32} (h : (s.region r).state ≠ .priming) :
    s.disableRegion r = s.leftIdle r :=
  if_neg h

theorem State.leftIdle_region (s : State) (r q : Fin 32) :
    (s.leftIdle r).region q = if r = q then
      { s.region r with state := .idle, accumulator := 0, alertFlag := false, tripLatch := false }
    else s.region q := by
  simp [State.leftIdle, Region.clearIntegrator]

theorem State.leftIdle_shadow {s : State} {r : Fin 32} {e : Extent} (h : s.extentOf r = some e) :
    (s.leftIdle r).shadow = shadowClear s.shadow e.first e.length := by
  simp [State.leftIdle, State.invalidate, h]

theorem State.leftIdle_frame (s : State) (r : Fin 32) :
    let t := s.leftIdle r
    t.settle = s.settle.filter (fun e => e.region ≠ r) ∧ t.alloc = s.alloc ∧ t.path = s.path ∧ t.drain = s.drain ∧
      t.monitor = s.monitor ∧ t.time = s.time ∧ t.staging = s.staging ∧ t.shadowPointer = s.shadowPointer ∧
      t.prime = s.prime ∧ t.queue = s.queue ∧ t.notices = s.notices := by
  simp [State.leftIdle]

/-- After the region has left, the Prime Engine touches records in PRIMING alone, and neither table nor shadow. -/
theorem State.disableRegion_left (s : State) (r : Fin 32) :
    let t := s.disableRegion r
    let u := s.leftIdle r
    u.PrimedOnly t ∧ t.settle = u.settle ∧ t.shadow = u.shadow ∧ t.alloc = u.alloc ∧ t.path = u.path ∧
      t.drain = u.drain ∧ t.monitor = u.monitor ∧ t.time = u.time ∧ t.staging = u.staging ∧
      t.shadowPointer = u.shadowPointer := by
  intro t u
  by_cases h : (s.region r).state = .priming
  · have ht : t = ((u.cancelRead fun q => q == r).primeLeft).arbitrate := State.disableRegion_priming h
    rw [ht]
    have hcancelled : u.PrimedOnly (u.cancelRead fun q => q == r) := .of_regions rfl
    refine ⟨(hcancelled.trans (State.primeLeft_primedOnly _)).trans (.of_regions (by simp)), ?_⟩
    simp
  · rw [show t = u from State.disableRegion_other h]
    exact ⟨.of_regions rfl, rfl, rfl, rfl, rfl, rfl, rfl, rfl, rfl, rfl⟩

theorem PrimeRead.cancelled_if (p : PrimeRead) (b : Bool) :
    (if b then { p with cancelled := true } else p) = { p with cancelled := p.cancelled || b } := by
  cases b
  · rw [Bool.or_false]
    rfl
  · rw [Bool.or_true]
    rfl

/-- A read in flight of the region that leaves PRIMING is cancelled, and holds the engine (R57, R60). -/
theorem State.disableRegion_read {s : State} {r : Fin 32} (h : (s.region r).state = .priming) {p : PrimeRead}
    (hp : s.prime.read = some p) :
    (s.disableRegion r).prime.read = some { p with cancelled := p.cancelled || p.region == r } := by
  obtain ⟨_, _, _, _, _, _, _, _, hprime, _, _⟩ := s.leftIdle_frame r
  have hread : ((s.leftIdle r).cancelRead fun q => q == r).prime.read =
      some { p with cancelled := p.cancelled || p.region == r } := by
    rw [State.cancelRead_prime, hprime, hp]
    exact congrArg some (p.cancelled_if (p.region == r))
  rw [State.disableRegion_priming h, State.primeLeft_of_read (by rw [hread]; rfl)]
  simpa using hread

/-- Settles O26: the region is IDLE first (`leftIdle`), then the Prime Engine moves on (`disableRegion_left`). -/
theorem disableRegionForgetsTheRegion : Obligations.DisableRegionForgetsTheRegion := by
  intro s index r rest hrecv hindex henabled
  have hallowed : (s.region r).enabled = true := by
    rcases henabled with h | h | h <;> rw [Region.enabled, h] <;> rfl
  obtain ⟨hprimed, hsettle, hshadow, halloc, hpath, hdrain, hmonitor, htime, hstaging, hpointer⟩ :=
    s.disableRegion_left r
  obtain ⟨hsettle', halloc', hpath', hdrain', hmonitor', htime', hstaging', hpointer', hprime, hqueue, hnotices⟩ :=
    s.leftIdle_frame r
  refine ⟨_, finish_region_ok hrecv _ (disableRegionEffect_cons index rest s) hindex hallowed, ?_, fun i hi => ?_,
    hsettle.trans hsettle', fun e he => hshadow.trans (State.leftIdle_shadow he), halloc.trans halloc', rfl,
    hpath.trans hpath', hdrain.trans hdrain', hmonitor.trans hmonitor', htime.trans htime', hstaging.trans hstaging',
    hpointer.trans hpointer', fun p hp hpriming => State.disableRegion_read hpriming hp, fun hother => ?_⟩
  · have hleft := s.leftIdle_region r r
    rw [if_pos rfl] at hleft
    obtain ⟨_, hkept⟩ := hprimed r
    exact (hkept (by rw [hleft]; exact nofun)).trans hleft
  · have hleft := s.leftIdle_region r i
    rw [if_neg (Ne.symm hi)] at hleft
    obtain ⟨hcfg, hkept⟩ := hprimed i
    rw [hleft] at hcfg hkept
    exact ⟨hcfg, hkept⟩
  · rw [State.disableRegion_other hother]
    exact ⟨hprime, hqueue, hnotices⟩

end Sys2Proof.Machine
end

section
/-! ARM and DISARM (R15, R16, R150, R152). -/

namespace Sys2Proof.Machine

/-! ### ARM -/

/-- RUN with every HELD region begun, before the Prime Engine steps (R15). -/
def State.armed (s : State) : State :=
  ({ s with monitor := { s.monitor with state := .run } } : State).mapRegions Region.armed

theorem State.armed_region (s : State) (r : Fin 32) : s.armed.region r = (s.region r).armed := by
  simp [State.armed]

theorem Region.armed_held {x : Region} (h : x.state = .held) : x.armed = x.activate := if_pos h

theorem Region.armed_other {x : Region} (h : x.state ≠ .held) : x.armed = x := if_neg h

theorem Region.armed_eq (x : Region) :
    x.armed = if x.state = .held then
      if x.cfg.watch ∨ x.cfg.verify then
        { x with state := .priming, primeCursor := 0, enginePrimed := 0, trafficPrimed := 0 }
      else { x with state := .live }
    else x := by
  rw [Region.armed, Region.activate]
  simp only [x.cfg.shadowed_iff]
  rfl

/-- In STANDBY no shadow word is valid (R47, R85). -/
theorem State.standbySound.shadow_nil {s : State} (h : s.standbySound) (hshadow : s.shadowSound)
    (hstandby : s.monitor.state = .standby) : s.shadow = [] := by
  obtain ⟨hacting, _⟩ := h
  obtain ⟨_, hwords, _⟩ := hshadow
  refine List.eq_nil_iff_forall_not_mem.2 fun w hw => ?_
  obtain ⟨e, _, _, _, hact⟩ := hwords w hw
  rw [hacting hstandby] at hact
  cases hact

/-- A region that ARM takes to PRIMING was HELD with a shadow. -/
theorem State.held_of_armed_priming {s : State} {r : Fin 32} (hacting : (s.region r).acting = false)
    (h : (s.region r).armed.state = .priming) :
    (s.region r).state = .held ∧ (s.region r).cfg.shadowed = true := by
  by_cases hheld : (s.region r).state = .held
  · refine ⟨hheld, Bool.eq_true_of_not_eq_false fun hplain => ?_⟩
    rw [Region.armed_held hheld, State.activate_plain hplain] at h
    cases h
  · rw [Region.armed_other hheld] at h
    rw [Region.acting, h] at hacting
    cases hacting

/-- With no read in flight the Prime Engine claims for the lowest region in PRIMING: every word of its extent is
invalid (R11, R57). -/
theorem State.armed_primeStep {s : State} (hstandby : s.monitor.state = .standby) (hsound : s.standbySound)
    (halloc : s.allocSound) (hshadow : s.shadowSound) (hread : s.prime.read = none) :
    s.armed.primeStep = { s.armed with
      prime := { s.prime with served := s.armed.lowestPriming, claim := s.armed.lowestPriming.isSome } } := by
  have hprime : s.armed.prime = s.prime := by simp [State.armed]
  rw [State.primeStep_of_none (by rw [hprime, hread])]
  cases hlow : s.armed.lowestPriming with
  | none =>
    rw [primeSteps_none 33 hlow, hprime]
    rfl
  | some r =>
    have hpriming := State.priming_of_lowestPriming hlow
    rw [State.armed_region] at hpriming
    obtain ⟨hheld, hshadowed⟩ := State.held_of_armed_priming (hsound.1 hstandby r) hpriming
    obtain ⟨_, _, hextents⟩ := halloc
    obtain ⟨_, hextent⟩ := hextents r (by rw [Region.committed, hheld]; rfl)
    obtain ⟨e, he⟩ := Option.isSome_iff_exists.1 (hextent hshadowed)
    have hcursor : (s.armed.region r).primeCursor = 0 := by
      rw [State.armed_region, Region.armed_held hheld, State.activate_shadowed hshadowed]
      rfl
    have hinvalid : s.armed.firstInvalid r (s.armed.region r).primeCursor = some 0 := by
      rw [hcursor]
      refine State.firstInvalid_zero (e := e) ?_ ?_
      · simpa [State.armed, State.extentOf] using he
      · simp [State.armed, hsound.shadow_nil hshadow hstandby, shadowGet]
    rw [primeSteps_claims 32 hlow hinvalid, hprime]
    rfl

/-- ARM: RUN and the HELD regions begun; with no read in flight the Prime Engine's step changes its own record
alone. -/
theorem State.armMonitor_eq {s : State} (hstandby : s.monitor.state = .standby) (hsound : s.standbySound)
    (halloc : s.allocSound) (hshadow : s.shadowSound) :
    s.armMonitor = ({ s.armed with
      prime := if s.prime.read = none then
          { s.prime with served := s.armed.lowestPriming, claim := s.armed.lowestPriming.isSome }
        else s.prime } : State).arbitrate := by
  rw [State.armMonitor]
  refine congrArg State.arbitrate ?_
  by_cases hread : s.prime.read = none
  · rw [if_pos hread]
    exact State.armed_primeStep hstandby hsound halloc hshadow hread
  · have hprime : s.armed.prime = s.prime := by simp [State.armed]
    rw [if_neg hread, ← hprime]
    exact State.primeStep_of_read (by simpa [State.armed] using Option.isSome_iff_ne_none.2 hread)

theorem armEffect_badState {s : State} (ops : List Byte) (h : s.monitor.state ≠ .standby) :
    armEffect ops s = (s, .badState) := if_pos h

theorem armEffect_snapActive {s : State} (ops : List Byte) (h : s.monitor.state = .standby)
    (hsnap : s.monitor.snapHigh = true) : armEffect ops s = (s, .snapActive) := by
  rw [armEffect, if_neg (not_not_intro h), if_pos hsnap]

theorem armEffect_ok {s : State} (ops : List Byte) (h : s.monitor.state = .standby)
    (hsnap : s.monitor.snapHigh = false) : armEffect ops s = (s.armMonitor, .ok) := by
  rw [armEffect, if_neg (not_not_intro h), if_neg (by rw [hsnap]; exact nofun)]

theorem State.lowestPriming_congr {s t : State} (h : t.regions = s.regions) :
    t.lowestPriming = s.lowestPriming := by
  simp only [State.lowestPriming, State.region, h]

/-- Settles O36: `armMonitor_eq`, field by field. -/
theorem armStartsTheHeldRegions : Obligations.ArmStartsTheHeldRegions := by
  intro s ops hrecv run
  refine ⟨fun h => finish_of_effect hrecv _ (armEffect_badState ops h),
    fun h hsnap => finish_of_effect hrecv _ (armEffect_snapActive ops h hsnap),
    fun hstandby hsnap hsound halloc hshadow => ⟨_, finish_of_effect hrecv _ (armEffect_ok ops hstandby hsnap), ?_⟩⟩
  rw [State.armMonitor_eq hstandby hsound halloc hshadow]
  refine ⟨by simp [State.armed], fun r => ?_, fun hread => ?_, fun hread => ?_, ?_⟩
  · rw [← Region.armed_eq, ← State.armed_region]
    simp
  · rw [if_pos hread]
    have hsame : ∀ {t : State}, t.regions = s.armed.regions → s.armed.lowestPriming = t.lowestPriming :=
      fun h => (State.lowestPriming_congr h).symm
    exact ⟨by simpa using hread,
      Eq.trans (b := s.armed.lowestPriming.isSome) (by simp) (congrArg Option.isSome (hsame (by simp))),
      Eq.trans (b := s.armed.lowestPriming) (by simp) (hsame (by simp))⟩
  · rw [if_neg (Option.isSome_iff_ne_none.1 hread)]
    simp
  · simp [State.armed]

/-! ### DISARM -/

/-- Shadow word `k` lies in the extent of region `r`, which acts on traffic. -/
def State.actsOnWord (s : State) (k : Nat) (r : Fin 32) : Bool :=
  (s.region r).acting && (s.extentOf r).any fun e => decide (e.first ≤ k) && decide (k < e.first + e.length)

theorem State.actsOnWord_iff (s : State) (k : Nat) (r : Fin 32) :
    s.actsOnWord k r = true ↔
      ∃ e, (s.region r).acting ∧ s.extentOf r = some e ∧ e.first ≤ k ∧ k < e.first + e.length := by
  cases he : s.extentOf r <;> simp [State.actsOnWord, he]

/-- Invalidating an acting region's words, with the others left, for one region. -/
theorem State.shadowGet_invalidateOne {s u : State} (h : u.alloc = s.alloc) (k : Nat) (r : Fin 32) :
    shadowGet (if (s.region r).acting then u.invalidate r else u).shadow k =
      if s.actsOnWord k r then none else shadowGet u.shadow k := by
  have hextent : u.extentOf r = s.extentOf r := by rw [State.extentOf, h, State.extentOf]
  cases hact : (s.region r).acting with
  | false => simp [State.actsOnWord, -State.region_eq, hact]
  | true =>
    cases he : s.extentOf r with
    | none => simp [State.invalidate, State.actsOnWord, hextent, he]
    | some e =>
      simp [State.invalidate, State.actsOnWord, -State.region_eq, hextent, he, hact, shadowGet_shadowClear]

theorem State.shadowGet_invalidateActing (s : State) (k : Nat) :
    shadowGet s.invalidateActing.shadow k =
      if (List.finRange 32).any (s.actsOnWord k) then none else shadowGet s.shadow k := by
  have fold : ∀ (l : List (Fin 32)) (u : State), u.alloc = s.alloc →
      shadowGet (l.foldl (fun t r => if (s.region r).acting then t.invalidate r else t) u).shadow k =
        if l.any (s.actsOnWord k) then none else shadowGet u.shadow k := by
    intro l
    induction l with
    | nil => intro u _; rfl
    | cons r rest ih =>
      intro u hu
      rw [List.foldl_cons, ih _ (by split <;> simp [hu]), State.shadowGet_invalidateOne hu, List.any_cons]
      cases s.actsOnWord k r <;> simp
  exact fold _ s rfl

theorem dropSnapMark_eq (m : Option FlushMark) : dropSnapMark m = m.filter (fun m => m.origin ≠ .snap) := by
  cases m with
  | none => rfl
  | some m => by_cases h : m.origin = .snap <;> simp [dropSnapMark, Option.filter, h]

/-- STANDBY with the acting regions HELD and forgotten, before the Prime Engine moves on (R16, R152). -/
def State.stoodBy (s : State) : State :=
  { s.invalidateActing.mapRegions Region.disarm with
    monitor := { s.monitor with state := .standby }
    settle := []
    drain := { s.drain with mark := dropSnapMark s.drain.mark }
    prime := { s.prime with read := s.prime.read.map fun p =>
      if (s.region p.region).state == .priming then { p with cancelled := true } else p } }

theorem State.disarmMonitor_eq (s : State) : s.disarmMonitor = s.stoodBy.primeLeft.arbitrate := by
  simp [State.disarmMonitor, State.stoodBy, State.cancelRead]

theorem State.stoodBy_region (s : State) (r : Fin 32) : s.stoodBy.region r = (s.region r).disarm := by
  simp [State.stoodBy]

theorem Region.disarm_state_ne_priming (x : Region) : x.disarm.state ≠ .priming := by
  unfold Region.disarm
  split
  · exact nofun
  · next h =>
    intro hpriming
    rw [Region.acting, hpriming] at h
    exact h rfl

theorem State.stoodBy_lowestPriming (s : State) : s.stoodBy.lowestPriming = none :=
  (State.lowestPriming_eq_none_iff _).2 fun r => by
    rw [State.stoodBy_region]
    exact Region.disarm_state_ne_priming _

/-- With no region in PRIMING, the engine's step after a region left changes its own record alone. -/
theorem State.primeLeft_of_none {s : State} (h : s.lowestPriming = none) :
    s.primeLeft = { s with prime := s.primeLeft.prime } ∧ s.primeLeft.prime.read = s.prime.read ∧
      (s.prime.read = none → s.primeLeft.prime.claim = false) := by
  unfold State.primeLeft
  split
  · cases hread : s.prime.read with
    | none =>
      rw [State.primeStep_of_none hread, primeSteps_none 33 h]
      exact ⟨rfl, hread, fun _ => rfl⟩
    | some p =>
      rw [State.primeStep_of_read (by rw [hread]; rfl)]
      exact ⟨rfl, hread, nofun⟩
  · next hclaim => exact ⟨rfl, rfl, fun _ => Bool.eq_false_of_not_eq_true hclaim⟩

theorem Region.disarm_eq (x : Region) :
    x.disarm = if x.state = .priming ∨ x.state = .live then
      { x with state := .held, accumulator := 0, alertFlag := false, tripLatch := false } else x := by
  have hact : x.acting = true ↔ x.state = .priming ∨ x.state = .live := by simp [Region.acting]
  simp only [Region.disarm, hact]
  rfl

theorem disarmEffect_badState {s : State} (ops : List Byte) (h : s.monitor.state = .standby) :
    disarmEffect ops s = (s, .badState) := if_pos h

theorem disarmEffect_ok {s : State} (ops : List Byte) (h : s.monitor.state ≠ .standby) :
    disarmEffect ops s = (s.disarmMonitor, .ok) := if_neg h

/-- Settles O37: `stoodBy` field by field; the Prime Engine finds no region in PRIMING and changes its own record
alone. -/
theorem disarmHoldsTheRegions : Obligations.DisarmHoldsTheRegions := by
  intro s ops hrecv run forgotten
  refine ⟨fun h => finish_of_effect hrecv _ (disarmEffect_badState ops h),
    fun h => ⟨_, finish_of_effect hrecv _ (disarmEffect_ok ops h), ?_⟩⟩
  obtain ⟨hleft, hread, hclaim⟩ := State.primeLeft_of_none s.stoodBy_lowestPriming
  rw [State.disarmMonitor_eq, hleft]
  have hshadow : ∀ k, shadowGet s.stoodBy.shadow k =
      if (List.finRange 32).any (s.actsOnWord k) then none else shadowGet s.shadow k := fun k => by
    rw [← State.shadowGet_invalidateActing]
    simp [State.stoodBy]
  have hforgotten : ∀ k, (List.finRange 32).any (s.actsOnWord k) = true ↔ forgotten k := fun k => by
    simp only [List.any_eq_true, List.mem_finRange, true_and, State.actsOnWord_iff, forgotten]
  refine ⟨by simp [State.stoodBy], fun r => ?_, fun k hk => ?_, fun k hk => ?_, by simp [State.stoodBy], ?_,
    fun hnone => ?_, fun p hp hpriming => ?_, ?_⟩
  · rw [← Region.disarm_eq, ← State.stoodBy_region]
    simp
  · have hword := (hshadow k).trans (if_pos ((hforgotten k).2 hk))
    simpa using hword
  · have hword := (hshadow k).trans (if_neg fun h => hk ((hforgotten k).1 h))
    simpa using hword
  · rw [← dropSnapMark_eq]
    simp [State.stoodBy]
  · have hstood : s.stoodBy.prime.read = none := by simp [State.stoodBy, hnone]
    exact ⟨by simpa using hclaim hstood, by simpa [hstood] using hread⟩
  · have hstood : s.stoodBy.prime.read = some { p with cancelled := true } := by
      simp [State.stoodBy, -State.region_eq, hp, hpriming]
    simpa [hstood] using hread
  · simp [State.stoodBy]

end Sys2Proof.Machine
end

section
/-! READ_REGION and READ_LINK: a whole frame that sends one unit of data, judged by its index (R5, R131, R177). -/

namespace Sys2Proof.Machine

/-! ### Frames that answer one unit of data -/

/-- What a read frame with one operand does in the states of one whole frame begun in `s`: its judgement, its one unit of
data and its result. -/
structure AnswersOnce (spec : FrameSpec) (s : State) (code index : Byte) (latch : Latch) (reply : Option (List Byte))
    (result : ResultCode) : Prop where
  command : spec.command = some code
  operands : spec.operands = 1
  judged : ∀ u, SerialOnly s u → spec.receive [index] u = latch
  answered : ∀ f u, SerialOnly s u → f.ops.head? = some index → spec.unit f u = if f.units = 0 then reply else none
  effect : ∀ f u, f.ops.head? = some index → f.latch = latch → spec.effect f u = (u, result)

/-- The frame has been judged and still has `rest` to send of its unit `data`, taken when its first byte begins. -/
def Frame.stillSends (index : Byte) (latch : Latch) (data : List Byte) (f : Frame) (rest : List Byte) : Prop :=
  f.ops.head? = some index ∧ f.latch = latch ∧
    (f.units = 0 ∧ f.data = [] ∧ rest = data ∨ f.units ≠ 0 ∧ f.data = rest)

section
variable {spec : FrameSpec} {s : State} {code index : Byte} {latch : Latch} {reply : Option (List Byte)}
  {result : ResultCode} (h : AnswersOnce spec s code index latch reply result)
include h

/-- The command byte and the index have been received: the frame is judged. -/
theorem AnswersOnce.first (ops : List Byte) (u v : State) (hv : SerialOnly s v) :
    (receiveByte spec (index :: ops) v (receiveByte spec (index :: ops) u Frame.fresh)).stillSends index latch
      (reply.getD []) (reply.getD []) := by
  simp [Frame.stillSends, receiveByte, Frame.fresh, h.command, h.operands, h.judged v hv]

/-- Bytes after the index change neither the judgement nor what is left to send. -/
theorem AnswersOnce.receive (ops : List Byte) {f : Frame} {rest : List Byte} (u : State) (hc : f.command = some code)
    (ho : f.ops ≠ []) (hf : f.stillSends index latch (reply.getD []) rest) :
    (receiveByte spec ops u f).stillSends index latch (reply.getD []) rest := by
  obtain ⟨hhead, hlatch, hdata⟩ := hf
  have hlength : (f.ops ++ [ops.getD f.ops.length 0]).length ≠ 1 := by
    simpa using ho
  refine ⟨?_, ?_, ?_⟩
  · simp [receiveByte, hc, List.head?_append, hhead]
  · simp only [receiveByte, hc, h.operands, if_neg hlength, hlatch]
  · simpa only [receiveByte, hc] using hdata

/-- The next byte is the next of the data, or 0x00 when none is left. -/
theorem AnswersOnce.next {f : Frame} {rest : List Byte} {u : State} (hu : SerialOnly s u) (ho : f.ops ≠ [])
    (hf : f.stillSends index latch (reply.getD []) rest) :
    (nextByte spec u f).1 = rest.headD 0 ∧
      (nextByte spec u f).2.stillSends index latch (reply.getD []) rest.tail := by
  obtain ⟨hhead, hlatch, ⟨hunits, hempty, rfl⟩ | ⟨hunits, rfl⟩⟩ := hf
  · have hunit : spec.unit f u = reply := by rw [h.answered f u hu hhead, if_pos hunits]
    match reply, hunit with
    | some (b :: more), hunit =>
      simp [nextByte, ho, hempty, hunit, Frame.stillSends, hhead, hlatch]
    | some [], hunit => simp [nextByte, ho, hempty, hunit, Frame.stillSends, hhead, hlatch, hunits]
    | none, hunit => simp [nextByte, ho, hempty, hunit, Frame.stillSends, hhead, hlatch, hunits]
  · have hunit : spec.unit f u = none := by rw [h.answered f u hu hhead, if_neg hunits]
    cases hdata : f.data with
    | nil => simp [nextByte, ho, hdata, hunit, Frame.stillSends, hhead, hlatch, hunits]
    | cons b more => simp [nextByte, ho, hdata, Frame.stillSends, hhead, hlatch, hunits]

/-- The whole frame sends the data, then 0x00, and changes nothing but the port. -/
theorem AnswersOnce.whole (hidle : s.port.selected = false) (rest : List Byte) (extra : Nat) :
    runFrame spec (index :: rest) (.whole extra) s = { s with
      port := s.exchanged (reply.getD []) (2 + rest.length + extra) result } := by
  obtain ⟨f, hf, hc, _, hhead, hlatch, _⟩ := exchangeBytes_data h.command (index :: rest) (reply.getD []) s
    (Frame.stillSends index latch (reply.getD [])) (fun u v _ hv => h.first rest u v hv)
    (fun f rest' u _ hc ho hs => h.receive (index :: rest) u hc ho hs)
    (fun f rest' u hu _ ho hs => h.next hu ho hs) (rest.length + extra)
  have hcount : spec.listed (index :: rest) + extra = rest.length + extra + 2 := by
    simp only [FrameSpec.listed, h.command, List.length_cons]
    omega
  have hlength : 2 + rest.length + extra = rest.length + extra + 2 := by omega
  simp only [runFrame, hidle, Bool.false_eq_true, if_false, hcount, hlength]
  rw [hf, closeFrame_of_frame rfl hc h.command, h.effect f _ hhead hlatch]
  rfl

end

/-! ### READ_REGION -/

theorem SerialOnly.regionData {s u : State} (h : SerialOnly s u) (index : Byte) :
    u.regionData index = s.regionData index := by
  rw [h]
  rfl

theorem SerialOnly.link {s u : State} (h : SerialOnly s u) (i : Fin 8) : u.link i = s.link i := by
  rw [h]
  rfl

/-- The bytes received of a frame that has its index. -/
theorem exists_cons_of_head {ops : List Byte} {index : Byte} (h : ops.head? = some index) :
    ∃ rest, ops = index :: rest := by
  cases ops with
  | nil => cases h
  | cons b rest => exact ⟨rest, by rw [Option.some.inj h]⟩

theorem readRegionFrame_answers {s : State} {index : Byte} {data : List Byte} (h : s.regionData index = some data) :
    AnswersOnce readRegionFrame s 0x12 index .nothing (some data) .ok where
  command := rfl
  operands := rfl
  judged u hu := by simp [readRegionFrame, hu.regionData, h]
  answered f u hu hhead := by
    obtain ⟨rest, ho⟩ := exists_cons_of_head hhead
    simp [readRegionFrame, ho, hu.regionData, h]
  effect f u hhead hlatch := by
    obtain ⟨rest, ho⟩ := exists_cons_of_head hhead
    simp [readRegionFrame, ho, hlatch]

theorem readRegionFrame_refuses {s : State} {index : Byte} (h : s.regionData index = none) :
    AnswersOnce readRegionFrame s 0x12 index (.refused .badIndex) none .badIndex where
  command := rfl
  operands := rfl
  judged u hu := by simp [readRegionFrame, hu.regionData, h]
  answered f u hu hhead := by
    obtain ⟨rest, ho⟩ := exists_cons_of_head hhead
    simp [readRegionFrame, ho, hu.regionData, h]
  effect f u hhead hlatch := by
    obtain ⟨rest, ho⟩ := exists_cons_of_head hhead
    simp [readRegionFrame, ho, hlatch]

theorem State.regionData_record {s : State} {index : Byte} {r : Fin 32} (h : index.toNat = r.val) :
    s.regionData index = some (regionBytes (s.region r) ((s.extentOf r).map Extent.first)) := by
  have hne : index ≠ 0xFF := by
    rintro rfl
    exact absurd h (by have := r.isLt; simp; omega)
  rw [State.regionData, if_neg hne, regionIndex_of_val h, Option.map_some]

theorem State.regionData_badIndex {s : State} {index : Byte} (h : 32 ≤ index.toNat) (hne : index ≠ 0xFF) :
    s.regionData index = none := by
  rw [State.regionData, if_neg hne, regionIndex_of_ge h, Option.map_none]

/-! ### READ_LINK -/

theorem readLinkFrame_answers {s : State} {index : Byte} {i : Fin 8} (h : linkIndex index = some i) :
    AnswersOnce readLinkFrame s 0x21 index .nothing (some (linkBytes (s.link i))) .ok where
  command := rfl
  operands := rfl
  judged u _ := by simp [readLinkFrame, h]
  answered f u hu hhead := by
    obtain ⟨rest, ho⟩ := exists_cons_of_head hhead
    simp only [readLinkFrame, ho, h, Option.map_some, hu.link]
  effect f u hhead hlatch := by
    obtain ⟨rest, ho⟩ := exists_cons_of_head hhead
    simp [readLinkFrame, ho, hlatch]

theorem readLinkFrame_refuses {s : State} {index : Byte} (h : linkIndex index = none) :
    AnswersOnce readLinkFrame s 0x21 index (.refused .badIndex) none .badIndex where
  command := rfl
  operands := rfl
  judged u _ := by simp [readLinkFrame, h]
  answered f u _ hhead := by
    obtain ⟨rest, ho⟩ := exists_cons_of_head hhead
    simp [readLinkFrame, ho, h]
  effect f u hhead hlatch := by
    obtain ⟨rest, ho⟩ := exists_cons_of_head hhead
    simp [readLinkFrame, ho, hlatch]

/-- Settles O20: each read is a frame that answers once. -/
theorem readRegionAndReadLinkReturnRecords : Obligations.ReadRegionAndReadLinkReturnRecords := by
  intro s index rest extra hidle region link
  refine ⟨fun r hr => ?record, fun hstaging => ?staging, fun hge hne => ?badRegion, fun i hi => ?link,
    fun hge => ?badLink⟩
  case record =>
    exact congrArg Host.Outcome.next ((readRegionFrame_answers (State.regionData_record hr)).whole hidle rest extra)
  case staging =>
    exact congrArg Host.Outcome.next ((readRegionFrame_answers (if_pos hstaging)).whole hidle rest extra)
  case badRegion =>
    exact congrArg Host.Outcome.next
      ((readRegionFrame_refuses (State.regionData_badIndex hge hne)).whole hidle rest extra)
  case link =>
    exact congrArg Host.Outcome.next ((readLinkFrame_answers (linkIndex_of_val hi)).whole hidle rest extra)
  case badLink =>
    exact congrArg Host.Outcome.next ((readLinkFrame_refuses (linkIndex_of_ge hge)).whole hidle rest extra)

end Sys2Proof.Machine
end

section
/-! The resets (R24, R25, R162, R163, R174) and the state after power-on. -/

namespace Sys2Proof.Machine

/-! ### What a reset leaves of the cycle path -/

theorem State.fullReset_pathReset (s : State) (cause : ResetCause) : s.pathReset (s.fullReset cause) := by
  simp [State.pathReset, State.fullReset, State.resetPath]

theorem State.partialReset_pathReset (s : State) : s.pathReset s.partialReset := by
  simp [State.pathReset, State.partialReset, State.resetPath]

/-! ### Full resets -/

theorem State.fullReset_fullyReset (s : State) (cause : ResetCause) : s.fullyReset (s.fullReset cause) cause := by
  have hpath := s.fullReset_pathReset cause
  refine ⟨?_, ?_, ?_, ?_, ?_, ?_, ?_, ?_, ?_, ?_, ?_, ?_, ?_, ?_, hpath⟩ <;>
    simp [State.fullReset, RegionConfig.zero, Timebase.afterReset]

/-- The levels of the lines and the rest of the port play no part in a full reset. -/
theorem State.fullyReset.of_lines {s t : State} {cause : ResetCause} (h : s.fullyReset t cause) {m : Monitor}
    {p : Port} (hm : m.state = t.monitor.state ∧ m.cause = t.monitor.cause)
    (hp : p.frame = t.port.frame ∧ p.lastResult = t.port.lastResult ∧ p.parityCheck = t.port.parityCheck ∧
      p.autoclear = t.port.autoclear ∧ p.burstLimit = t.port.burstLimit) :
    s.fullyReset { t with monitor := m, port := p } cause := by
  obtain ⟨hregions, hstaging, hshadow, halloc, hpointer, hsettle, hqueue, hlinks, hdrain, hstate, hcause, htime,
    ⟨hframe, hresult, hparity, hauto, hburst⟩, hnotices, hpath⟩ := h
  obtain ⟨hm, hm'⟩ := hm
  obtain ⟨hp1, hp2, hp3, hp4, hp5⟩ := hp
  exact ⟨hregions, hstaging, hshadow, halloc, hpointer, hsettle, hqueue, hlinks, hdrain, hm.trans hstate,
    hm'.trans hcause, htime, ⟨hp1.trans hframe, hp2.trans hresult, hp3.trans hparity, hp4.trans hauto,
    hp5.trans hburst⟩, hnotices, hpath⟩

/-- The port at a full reset: the frame gone, the bits not yet sampled 0, the options at their values, the RST line
function kept (R174, Table 10-9). -/
theorem State.fullReset_port (s : State) (cause : ResetCause) :
    (s.fullReset cause).port = { s.port with
      frame := none
      out := s.port.out &&& (0xFF <<< (8 - s.port.bits))
      lastResult := .ok
      parityCheck := true
      autoclear := false
      burstLimit := 4 } := by
  simp [State.fullReset]

theorem State.fullReset_monitor (s : State) (cause : ResetCause) :
    (s.fullReset cause).monitor = { s.monitor with state := .standby, cause := cause } := by
  simp [State.fullReset]

/-- The byte on CFG_DO at a full reset keeps the bits already sampled, most significant first, and no other. -/
theorem getLsbD_sampled (out : Byte) (bits : Nat) (n : Fin 8) :
    (out &&& (0xFF <<< (8 - bits))).getLsbD (7 - n) = (decide (n.val < bits) && out.getLsbD (7 - n)) := by
  have hn := n.isLt
  have hmask : (255 <<< (8 - bits)).testBit (7 - n.val) = decide (n.val < bits) := by
    rw [Nat.testBit_shiftLeft, show 255 = 2 ^ 8 - 1 from rfl, Nat.testBit_two_pow_sub_one, ← Bool.decide_and]
    exact decide_eq_decide.2 (by omega)
  have hbyte : 7 - n.val < 8 := by omega
  rw [BitVec.getLsbD_and, BitVec.natCast_eq_ofNat, BitVec.getLsbD_ofNat, hmask, decide_eq_true hbyte, Bool.true_and,
    Bool.and_comm]

/-- The bytes of a frame name a command whose meaning is a frame (Table 10-3). -/
theorem exec_decodeFrame (bytes : List Byte) (act : FrameAct) :
    ∃ spec ops, ∀ s, exec (decodeFrame bytes act) s = .next (runFrame spec ops act s) := by
  cases bytes with
  | nil => exact ⟨badCommandFrame none, [], fun _ => rfl⟩
  | cons code ops =>
    by_cases hk : code ∈ knownCodes
    · by_cases hcontinue : code = 0x22 ∧ ops.head? = some 0xFF
      · obtain ⟨rfl, hhead⟩ := hcontinue
        rw [decodeFrame_startDrainContinue hhead]
        exact ⟨_, _, fun _ => rfl⟩
      · rcases knownCodes_cases hk with rfl | rfl | rfl | rfl | rfl | rfl | rfl | rfl | rfl | rfl | rfl | rfl | rfl |
          rfl | rfl | rfl | rfl | rfl | rfl | rfl | rfl | rfl | rfl | rfl | rfl | rfl | rfl | rfl | rfl | rfl | rfl
        case inr.inr.inr.inr.inr.inr.inr.inr.inr.inr.inr.inr.inr.inr.inr.inr.inl =>
          rw [decodeFrame_startDrain fun h => hcontinue ⟨rfl, h⟩]
          exact ⟨_, _, fun _ => rfl⟩
        all_goals exact ⟨_, _, fun _ => rfl⟩
    · rw [decodeFrame_unknown hk]
      have hunknown : ¬(some code).any knownCodes.contains = true := by simpa using hk
      exact ⟨badCommandFrame (some code), [], fun s => if_neg hunknown⟩

/-- The rest of a frame that a full reset has ended: each byte is 0x00 (R174). -/
theorem runFrame_byte_of_none {spec : FrameSpec} {s : State} (h : s.port.frame = none) (hb : s.betweenBytes)
    (ops : List Byte) : runFrame spec ops .byte s =
      { s with port := { s.port with sent := s.port.sent ++ [s.port.out], out := 0 } } := by
  have hfits : spec.fits s.port = true := by rw [FrameSpec.fits, h]
  have hcompletes : spec.completes s.port = true := by rw [FrameSpec.completes, h]; rfl
  refine (exchangeByte_eq ops hb hfits hcompletes).trans ?_
  simp [beginByte, endByte, h]

/-- Settles O5: each reset leaves the values of `fullReset_fullyReset` with its own levels of the lines. -/
theorem fullResetsTakeSpecValues : Obligations.FullResetsTakeSpecValues := by
  unfold Obligations.FullResetsTakeSpecValues
  intro restOfFrame
  have hrest : ∀ (s : State) (cause : ResetCause), restOfFrame s (s.fullReset cause) := by
    intro s cause
    simp only [restOfFrame, State.fullReset_port, true_and]
    exact getLsbD_sampled _ _
  refine ⟨fun s snap rst => ?powerOn, fun s ops hrecv => ?command, fun s hhigh hfull => ?line, fun bytes s hnone => ?rest⟩
  case powerOn =>
    exact ⟨_, rfl, (s.fullReset_fullyReset .power).of_lines ⟨rfl, rfl⟩ ⟨rfl, rfl, rfl, rfl, rfl⟩, rfl, rfl, rfl,
      hrest s .power⟩
  case command =>
    refine ⟨_, finish_of_effect hrecv _ rfl, ?_, ?_, ?_, ?_, rfl⟩
    · exact (s.fullReset_fullyReset .command).of_lines (m := (s.fullReset .command).monitor) ⟨rfl, rfl⟩
        (by rw [State.fullReset_port]; exact ⟨rfl, rfl, rfl, rfl, rfl⟩)
    · rw [State.fullReset_monitor]
    · rw [State.fullReset_monitor]
    · rw [State.fullReset_port]
      rfl
  case line =>
    refine ⟨_, if_pos ⟨hhigh, hfull⟩, ?_, ?_, rfl, ?_, hrest s .lineFull⟩
    · exact (s.fullReset_fullyReset .lineFull).of_lines (p := (s.fullReset .lineFull).port) ⟨rfl, rfl⟩
        ⟨rfl, rfl, rfl, rfl, rfl⟩
    · simp only [State.fullReset_monitor]
    · simp only [State.fullReset_port]
  case rest =>
    obtain ⟨spec, ops, hbyte⟩ := exec_decodeFrame bytes .byte
    obtain ⟨spec', ops', hfinish⟩ := exec_decodeFrame bytes .finish
    exact ⟨fun hb => (hbyte s).trans (congrArg Host.Outcome.next (runFrame_byte_of_none hnone hb ops)),
      (hfinish s).trans (congrArg Host.Outcome.next (closeFrame_of_none hnone))⟩

/-! ### The partial reset -/

theorem Region.partialReset_eq (x : Region) :
    x.partialReset = { x with
      state := if x.state = .priming ∨ x.state = .live then .held else x.state
      accumulator := 0
      alertFlag := false
      tripLatch := false } := by
  have hact : x.acting = true ↔ x.state = .priming ∨ x.state = .live := by simp [Region.acting]
  simp only [Region.partialReset, hact]
  rfl

/-- The ACTIVE link is closed with reason RESET, and the other links are kept (R147). -/
theorem Drain.partialReset_link (d : Drain) (i : Fin 8) :
    d.partialReset.links.get i = if d.current = some i then
      { d.links.get i with state := .done, closeReason := some .reset } else d.links.get i := by
  cases h : d.current with
  | none => simp [Drain.partialReset, h]
  | some j =>
    by_cases hij : j = i
    · subst hij
      simp [Drain.partialReset, h]
    · simp [Drain.partialReset, h, hij]

theorem State.partialReset_region (s : State) (r : Fin 32) :
    s.partialReset.region r = (s.region r).partialReset := by
  simp [State.partialReset]

theorem State.partialReset_drain (s : State) : s.partialReset.drain = s.drain.partialReset := by
  simp [State.partialReset]

/-- Settles O6: the fields of `State.partialReset`, with the RST# line seen low. -/
theorem partialResetKeepsWhatSoftwareBuilt : Obligations.PartialResetKeepsWhatSoftwareBuilt := by
  intro s hhigh hpartial
  refine ⟨_, if_pos ⟨hhigh, hpartial⟩, fun r => ?_, ?_, ?_, ?_, ?_, ?_, ?_, fun i => ?_, ?_, ?_, ?_, ?_, ?_,
    s.partialReset_pathReset, ?_⟩
  case refine_1 => exact (s.partialReset_region r).trans (Region.partialReset_eq _)
  case refine_8 =>
    refine Eq.trans ?_ (s.drain.partialReset_link i)
    exact congrArg (fun d : Drain => d.links.get i) s.partialReset_drain
  case refine_9 =>
    dsimp only
    rw [s.partialReset_drain]
    exact ⟨rfl, rfl, rfl, rfl, rfl, rfl, rfl⟩
  all_goals simp [State.partialReset]

/-! ### Power-on -/

theorem State.reset_link (i : Fin 8) : State.reset.link i = Link.unloaded := by
  simp [State.reset]

/-- No region is committed after power-on (R24). -/
theorem State.reset_not_committed (r : Fin 32) : ¬(State.reset.region r).committed = true := by
  rw [State.reset_region]
  exact nofun

/-- No buffer is live after power-on (R125). -/
theorem State.reset_not_liveBuffer (i : Fin 8) : ¬(State.reset.link i).liveBuffer = true := by
  rw [State.reset_link]
  exact nofun

theorem State.reset_fullyReset : State.reset.fullyReset State.reset .power :=
  ⟨State.reset_region, rfl, rfl, rfl, rfl, rfl, rfl, State.reset_link, ⟨rfl, rfl, rfl, rfl, rfl, rfl, rfl⟩, rfl, rfl,
    rfl, ⟨rfl, rfl, rfl, rfl, rfl⟩, rfl, rfl, rfl, rfl, rfl, rfl, rfl, rfl, rfl, rfl⟩

theorem State.reset_queueSound : State.reset.queueSound :=
  ⟨Nat.zero_le _, fun h => absurd rfl h, fun _ hr => (List.not_mem_nil hr).elim⟩

theorem State.reset_rangesSound : State.reset.rangesSound := by
  unfold State.rangesSound
  decide

theorem State.reset_portSound : State.reset.portSound :=
  ⟨nofun, nofun, fun _ => Nat.zero_le _⟩

theorem State.reset_regionsApart : State.reset.regionsApart :=
  fun i _ _ hi => absurd hi (State.reset_not_committed i)

theorem State.reset_buffersApart : State.reset.buffersApart :=
  fun i _ hi => absurd hi (State.reset_not_liveBuffer i)

theorem State.reset_integratorsSound : State.reset.integratorsSound := by
  intro r
  rw [State.reset_region]
  exact ⟨fun _ => ⟨rfl, rfl, rfl⟩, nofun⟩

theorem State.reset_arbiterSound : State.reset.arbiterSound :=
  ⟨nofun, fun _ _ => rfl⟩

theorem State.reset_primeSound : State.reset.primeSound :=
  ⟨nofun, nofun⟩

theorem State.reset_standbySound : State.reset.standbySound := by
  refine ⟨fun _ r => ?_, fun _ r => ?_⟩ <;> rw [State.reset_region]
  · rfl
  · exact nofun

theorem State.reset_allocSound : State.reset.allocSound :=
  ⟨.nil, fun _ he => (List.not_mem_nil he).elim, fun r hr => absurd hr (State.reset_not_committed r)⟩

theorem State.reset_shadowSound : State.reset.shadowSound :=
  ⟨rfl, fun _ hw => (List.not_mem_nil hw).elim, fun _ he => (List.not_mem_nil he).elim⟩

theorem State.reset_freezeSound : State.reset.freezeSound :=
  ⟨⟨nofun, fun ⟨_, hm, _⟩ => nomatch hm⟩, nofun, nofun⟩

theorem State.reset_noticesSound : State.reset.noticesSound :=
  ⟨⟨fun _ => rfl, fun _ => rfl⟩, nofun⟩

theorem State.reset_linksSound : State.reset.linksSound := by
  intro i
  rw [State.reset_link]
  exact ⟨⟨nofun, nofun⟩, ⟨nofun, nofun⟩, Nat.le_refl _, nofun, nofun⟩

theorem State.reset_drainSound : State.reset.drainSound :=
  ⟨nofun, fun _ => rfl, nofun, nofun, nofun, nofun, nofun⟩

/-- Settles O4: the values of `State.reset` by definition; its invariants hold of FREE records, empty tables and
unloaded links. -/
theorem resetHoldsSpecValuesAndIsSound : Obligations.ResetHoldsSpecValuesAndIsSound :=
  ⟨State.reset_fullyReset, rfl, rfl, rfl, rfl, rfl, rfl, rfl, State.reset_queueSound, State.reset_rangesSound,
    State.reset_portSound, State.reset_regionsApart, State.reset_buffersApart, State.reset_integratorsSound,
    State.settleSound_of_nil rfl, State.reset_arbiterSound, State.reset_primeSound, State.reset_standbySound,
    State.reset_allocSound, State.reset_shadowSound, State.reset_freezeSound, State.reset_noticesSound,
    State.reset_linksSound, State.reset_drainSound⟩

end Sys2Proof.Machine
end

section
/-! What a command can do to the Event Queue, the notices, the options, the Timebase and the serial lines, said once:
each command is a chain of elementary moves, so that a fact about these fields is checked move by move. -/

namespace Sys2Proof.Machine

/-! ### The moves -/

/-- The two states agree in what R36, R108, R112, R115, R165, R172, R179 and R180 speak of. -/
def State.SameCore (s t : State) : Prop :=
  t.queue = s.queue ∧ t.time = s.time ∧ t.arb.burstCount = s.arb.burstCount ∧
  t.port.burstLimit = s.port.burstLimit ∧ t.port.selected = s.port.selected ∧ t.port.frame = s.port.frame ∧
  t.port.clock = s.port.clock ∧ t.port.bits = s.port.bits ∧
  t.notices.flags = s.notices.flags ∧ t.notices.completeness = s.notices.completeness ∧
  t.path.clashReported = s.path.clashReported

theorem State.SameCore.refl (s : State) : s.SameCore s := by simp [State.SameCore]

/-- One move of the serial lines (R172, R173, R174). -/
inductive State.LineMove (s : State) : State → Prop
  | opened : LineMove s (openFrame s)
  | rose (spec : FrameSpec) (ops : List Byte) : LineMove s (riseClock spec ops s)
  | fell (spec : FrameSpec) : LineMove s (fallClock spec s)
  | exchanged (spec : FrameSpec) (ops : List Byte) : LineMove s (exchangeByte spec ops s)
  | released (h : s.port.frame = none) : LineMove s { s with port := { s.port with selected := false } }
  | ended (result : ResultCode) : LineMove s (s.frameEnded result)

/-- The elementary moves: what the parts of a command's meaning can do to the fields of `State.SameCore`. -/
inductive State.Move (s : State) : State → Prop
  /-- Something else changes. -/
  | still {t : State} (h : s.SameCore t) : Move s t
  /-- A record is created (R109). -/
  | created (b : Report) : Move s (s.createRecord b)
  /-- Records leave the head of the queue, and a pending loss is placed (R115). -/
  | freed (n : Nat) :
      Move s ({ s with queue := { s.queue with records := s.queue.records.drop n } } : State).placeLoss
  /-- A notice other than SNAP_DONE is set (R180). -/
  | noticed (n : Notice) (h : n ≠ .snapDone) : Move s (s.setNotice n)
  /-- A CLASH refusal is reported while CLASH is set (R36). -/
  | reported (h : s.noticeSet .clash = true) : Move s { s with path := { s.path with clashReported := true } }
  /-- Flags are cleared (R180, R182). -/
  | cleared (bits : BitVec 11) : Move s (s.clearNotices bits)
  /-- A freeze ends, with a completeness (R157, R158). -/
  | frozen (c : Completeness) (h : c ≠ .none) : Move s (s.endFreeze c)
  /-- SET_OPTIONS (R179). -/
  | options (ops : List Byte) : Move s (setOptionsEffect ops s).1
  /-- SET_TIMEBASE (R168). -/
  | timebase (ops : List Byte) : Move s (setTimebaseEffect ops s).1
  /-- The prescale count increases below the divisor (R165). -/
  | counted (h : s.time.count + 1 ≠ s.time.divisor) :
      Move s { s with time := { s.time with count := s.time.count + 1 } }
  /-- A base tick moves the counter and the countdown (R166, R167). -/
  | ticked : Move s ({ s with time := { s.time with count := 0 } } : State).tickCounters
  /-- The decay countdown is loaded again (R167). -/
  | reloaded : Move s { s with time := { s.time with countdown := s.time.decayDivider } }
  /-- The burst count takes the burst limit or falls (R30). -/
  | burst (n : Nat) (h : n = s.port.burstLimit ∨ n ≤ s.arb.burstCount) :
      Move s { s with arb := { s.arb with burstCount := n } }
  /-- The serial lines move. -/
  | line {t : State} (h : s.LineMove t) : Move s t
  | fullReset (cause : ResetCause) : Move s (s.fullReset cause)
  | partialReset : Move s s.partialReset

/-- From `s` to `t` there is a chain of moves. -/
def State.Moves (s t : State) : Prop := Relation.ReflTransGen State.Move s t

theorem State.Moves.refl (s : State) : s.Moves s := Relation.ReflTransGen.refl

theorem State.Moves.trans {s t u : State} (h : s.Moves t) (h' : t.Moves u) : s.Moves u :=
  Relation.ReflTransGen.trans h h'

theorem State.Move.moves {s t : State} (h : s.Move t) : s.Moves t := Relation.ReflTransGen.single h

theorem State.SameCore.moves {s t : State} (h : s.SameCore t) : s.Moves t := (State.Move.still h).moves

theorem State.Moves.still {s t u : State} (h : s.Moves t) (h' : t.SameCore u) : s.Moves u := h.trans h'.moves

/-- A fact that every move keeps is kept by a chain of moves. -/
theorem State.Moves.keeps {P : State → Prop} (hP : ∀ {s t : State}, s.Move t → P s → P t) {s t : State}
    (h : s.Moves t) (hs : P s) : P t := by
  induction h with
  | refl => exact hs
  | tail _ hmove ih => exact hP hmove ih

/-! ### Records and notices -/

theorem State.produce_moves (s : State) (b : Report) : s.Moves (s.produce b) := by
  unfold State.produce
  split
  · exact (State.Move.created b).moves
  · exact .refl s

theorem State.modRegion_sameCore (s : State) (r : Fin 32) (f : Region → Region) : s.SameCore (s.modRegion r f) := by
  simp [State.SameCore]

theorem State.arbitrate_sameCore (s : State) : s.SameCore s.arbitrate := by
  simp [State.SameCore]

theorem State.releasePort_sameCore (s : State) : s.SameCore s.releasePort := by
  simp [State.SameCore]

/-- A notice other than SNAP_DONE with a producer's record (R180). -/
theorem State.setNotice_produce_moves (s : State) {n : Notice} (h : n ≠ .snapDone) (b : Report) :
    s.Moves ((s.setNotice n).produce b) :=
  (State.Move.noticed n h).moves.trans (State.produce_moves _ b)

theorem State.checkParity_moves (s : State) (dir : Direction) (a : Addr) (enables : BitVec 2) (d : Word)
    (lines : BitVec 2) : s.Moves (s.checkParity dir a enables d lines) := by
  unfold State.checkParity
  split
  · exact s.setNotice_produce_moves (by decide) _
  · exact .refl s

/-! ### Master cycles -/

theorem State.countRefusal_moves (s : State) (r : Fin 32) (reason : Word) (c : MasterCycle) :
    s.Moves (s.countRefusal r reason c) := by
  unfold State.countRefusal
  dsimp only
  have hcounted := (s.modRegion_sameCore r fun x => { x with refusals := satInc x.refusals }).moves
  split
  · exact (hcounted.still (State.modRegion_sameCore _ r _)).trans (State.Move.created _).moves
  · exact hcounted

theorem State.countClash_moves (s : State) (c : MasterCycle) : s.Moves (s.countClash c) := by
  unfold State.countClash
  dsimp only
  have hnoticed : s.Moves (s.setNotice .clash) := (State.Move.noticed _ (by decide)).moves
  split
  · exact (hnoticed.trans (State.Move.reported (s.setNotice_noticeSet .clash)).moves).trans
      (State.Move.created _).moves
  · exact hnoticed

/-! ### The Change Detector, the integrators and the Shadow Store -/

theorem State.recordChange_moves (s : State) (r : Fin 32) (a : Addr) (old new : Word) (settled unsettled : Bool) :
    s.Moves (s.recordChange r a old new settled unsettled) :=
  (s.modRegion_sameCore r _).moves.trans (State.produce_moves _ _)

theorem State.detect_moves (s : State) (r : Fin 32) (a : Addr) (old new : Word) :
    s.Moves (s.detect r a old new) := by
  unfold State.detect
  dsimp only
  split
  · split
    · exact s.recordChange_moves r a old new _ _
    · exact .refl s
  · split
    · split
      · split
        · exact State.SameCore.moves (by exact .refl s)
        · exact s.recordChange_moves r a old new _ _
      · exact .refl s
    · split
      · exact .refl s
      · split
        · exact State.SameCore.moves (by exact .refl s)
        · exact State.SameCore.moves (by exact .refl s)

theorem State.expireEntries_moves (entries : List SettleEntry) (s : State) :
    s.Moves (entries.foldl State.expireEntry s) := by
  induction entries generalizing s with
  | nil => exact .refl s
  | cons e rest ih => exact (s.recordChange_moves e.region e.addr e.confirmed e.candidate true false).trans (ih _)

theorem State.settleTick_moves (s : State) : s.Moves s.settleTick := by
  unfold State.settleTick
  dsimp only
  exact State.Moves.trans (State.SameCore.moves (by exact .refl s)) (State.expireEntries_moves _ _)

theorem State.verifyRead_moves (s : State) (r : Fin 32) (a : Addr) (k : Nat) (held data : Word) :
    s.Moves (s.verifyRead r a k held data) := by
  unfold State.verifyRead
  split
  · exact .refl s
  · refine State.Moves.trans ?_ (State.produce_moves _ _)
    split <;> exact State.SameCore.moves (by exact .refl s)

theorem State.judgeAlert_moves (s : State) (r : Fin 32) (a : Addr) : s.Moves (s.judgeAlert r a) := by
  unfold State.judgeAlert
  dsimp only
  split
  · exact (s.modRegion_sameCore r _).moves.trans (State.setNotice_produce_moves _ (by decide) _)
  · exact .refl s

theorem State.judgeTrip_moves (s : State) (r : Fin 32) (a : Option Addr) : s.Moves (s.judgeTrip r a) := by
  unfold State.judgeTrip
  dsimp only
  split
  · exact (s.modRegion_sameCore r _).moves.trans (State.setNotice_produce_moves _ (by decide) _)
  · exact .refl s

theorem State.integrate_moves (s : State) (r : Fin 32) (a : Addr) : s.Moves (s.integrate r a) := by
  unfold State.integrate
  split
  · exact .refl s
  · exact ((s.modRegion_sameCore r _).moves.trans (State.judgeAlert_moves _ r a)).trans (State.judgeTrip_moves _ r _)

theorem State.shadowWrite_moves (s : State) (r : Fin 32) (a : Addr) (enables : BitVec 2) (d : Word) :
    s.Moves (s.shadowWrite r a enables d) := by
  unfold State.shadowWrite
  split
  · exact .refl s
  · next k _ =>
    have hwritten : ∀ w, s.Moves (s.writeShadow k w) := fun _ => State.SameCore.moves (by exact .refl s)
    split
    · dsimp only
      split
      · exact (hwritten _).trans (State.detect_moves _ r a _ _)
      · exact hwritten _
    · split
      · exact (hwritten _).still (State.modRegion_sameCore _ r _)
      · exact .refl s

theorem State.shadowRead_moves (s : State) (r : Fin 32) (a : Addr) (d : Word) : s.Moves (s.shadowRead r a d) := by
  unfold State.shadowRead
  split
  · exact .refl s
  · split
    · exact State.SameCore.moves (by exact .refl s)
    · split
      · exact s.verifyRead_moves r a _ _ d
      · exact .refl s

theorem State.consumeWrite_moves (s : State) (a : Addr) (enables : BitVec 2) (d : Word) :
    s.Moves (s.consumeWrite a enables d) := by
  unfold State.consumeWrite
  split
  · exact .refl s
  · next r _ =>
    refine State.Moves.trans ?_ (State.integrate_moves _ r a)
    split
    · exact s.shadowWrite_moves r a enables d
    · exact .refl s

theorem State.consumeRead_moves (s : State) (a : Addr) (enables : BitVec 2) (d : Word) (lines : BitVec 2) :
    s.Moves (s.consumeRead a enables d lines) := by
  unfold State.consumeRead
  split
  · exact .refl s
  · split
    · exact s.shadowRead_moves _ a d
    · exact .refl s

/-! ### The Prime Engine -/

theorem State.takePrime_sameCore (s : State) (p : PrimeRead) (d : Word) : s.SameCore (s.takePrime p d) := by
  simp [State.SameCore]

theorem State.completePriming_moves (s : State) (r : Fin 32) : s.Moves (s.completePriming r) :=
  (s.modRegion_sameCore r _).moves.trans (State.setNotice_produce_moves _ (by decide) _)

theorem primeSteps_moves (n : Nat) (s : State) : s.Moves (primeSteps n s) := by
  induction n generalizing s with
  | zero => exact State.SameCore.moves (by exact .refl s)
  | succ n ih =>
    unfold primeSteps
    split
    · exact State.SameCore.moves (by exact .refl s)
    · next r _ =>
      dsimp only
      split
      · exact State.SameCore.moves (by exact .refl s)
      · split
        · exact State.SameCore.moves (by exact .refl s)
        · exact State.Moves.trans (State.SameCore.moves (by exact .refl s))
            ((State.completePriming_moves _ r).trans (ih _))

theorem State.primeStep_moves (s : State) : s.Moves s.primeStep := by
  unfold State.primeStep
  split
  · exact .refl s
  · exact primeSteps_moves 33 s

theorem State.primeLeft_moves (s : State) : s.Moves s.primeLeft := by
  unfold State.primeLeft
  split
  · exact s.primeStep_moves
  · exact .refl s

end Sys2Proof.Machine
end

section
/-! Every command is a chain of moves: the Drain Engine, its commands and the commands of the Event Queue. -/

namespace Sys2Proof.Machine

/-! ### The Drain Engine -/

theorem State.driveWord_sameCore (s : State) (k : Nat) : s.SameCore (s.driveWord k) := by
  unfold State.driveWord
  split <;> exact .refl s

theorem State.drivePad_sameCore (s : State) (k : Nat) : s.SameCore (s.drivePad k) := by
  unfold State.drivePad
  split <;> exact .refl s

theorem State.endMark_moves (s : State) : s.Moves s.endMark := by
  unfold State.endMark
  split
  · exact .refl s
  · dsimp only
    have hended : s.Moves { s with drain := { s.drain with mark := none } } :=
      State.SameCore.moves (by exact .refl s)
    split
    · exact hended
    · exact hended.trans (State.Move.frozen .incomplete (by decide)).moves

theorem State.completeMark_moves (s : State) : s.Moves s.completeMark := by
  unfold State.completeMark
  split
  · exact .refl s
  · dsimp only
    have hended : s.Moves { s with drain := { s.drain with mark := none } } :=
      State.SameCore.moves (by exact .refl s)
    split
    · exact hended
    · exact hended.trans (State.Move.frozen .complete (by decide)).moves

theorem State.closeLink_moves (s : State) (i : Fin 8) (reason : CloseReason) : s.Moves (s.closeLink i reason) := by
  unfold State.closeLink
  dsimp only
  split
  · refine State.Moves.trans (t := s.setNotice .linkDone) (State.Move.noticed _ (by decide)).moves ?_
    exact State.SameCore.moves (by exact .refl (s.setNotice .linkDone))
  · exact State.SameCore.moves (by exact .refl s)

theorem State.endChain_moves (s : State) : s.Moves s.endChain :=
  State.Moves.trans (State.SameCore.moves (by exact .refl s)) (State.Move.noticed .chainEnded (by decide)).moves

theorem State.starve_moves (s : State) : s.Moves s.starve :=
  State.Moves.trans (State.SameCore.moves (by exact .refl s)) (State.Move.noticed .starved (by decide)).moves

theorem State.activateLink_sameCore (s : State) (i : Fin 8) : s.SameCore (s.activateLink i) := by
  simp [State.SameCore]

theorem State.advance_moves (s : State) (i : Fin 8) : s.Moves (s.advance i) := by
  unfold State.advance
  split
  · exact s.endChain_moves.trans (State.endMark_moves _)
  · dsimp only
    have hmoved : s.Moves { s with drain := { s.drain with pointer := (s.link i).next } } :=
      State.SameCore.moves (by exact .refl s)
    split
    · split
      · exact hmoved.still (State.activateLink_sameCore _ _)
      · exact (hmoved.trans (State.starve_moves _)).trans (State.endMark_moves _)
    · exact hmoved

theorem State.closeFull_moves (s : State) (i : Fin 8) : s.Moves (s.closeFull i) := by
  unfold State.closeFull
  refine State.Moves.trans ?_ (State.advance_moves _ i)
  have hclosed := s.closeLink_moves i .full
  split
  · exact hclosed.trans (State.completeMark_moves _)
  · exact hclosed

theorem State.completeFlush_moves (s : State) : s.Moves s.completeFlush := by
  unfold State.completeFlush
  split
  · exact s.completeMark_moves
  · next i _ =>
    split
    · exact ((s.closeLink_moves i .flush).trans (State.completeMark_moves _)).trans (State.advance_moves _ i)
    · exact s.completeMark_moves

theorem State.settleAbort_moves (s : State) (i : Fin 8) : s.Moves (s.settleAbort i) := by
  unfold State.settleAbort
  dsimp only
  have hcleared : s.Moves { s with drain := { s.drain with abortPending := false } } :=
    State.SameCore.moves (by exact .refl s)
  split
  · exact hcleared.trans (State.endChain_moves _)
  · exact State.SameCore.moves (by exact .refl s)

theorem State.carryOutAbort_moves (s : State) : s.Moves s.carryOutAbort := by
  unfold State.carryOutAbort
  split
  · exact .refl s
  · next i _ => exact (s.closeLink_moves i .abort).trans (State.settleAbort_moves _ i)

/-- The block between a record's eighth write and the loss placement: the fill, the counts and the engine have moved. -/
def State.recordDone (s : State) (i : Fin 8) : State :=
  { s with
    path := { s.path with memCycle := none }
    arb := { s.arb with burstCount := s.arb.burstCount - 1 }
    drain := { s.drain with
      links := s.drain.links.set i { s.link i with fill := (s.link i).fill + 1 }
      recordInFlight := none
      mark := s.drain.mark.map fun (m : FlushMark) => { m with remaining := m.remaining - 1 } } }

theorem State.recordWritten_eq (s : State) (i : Fin 8) :
    s.recordWritten i = ({ s.recordDone i with
      queue := { s.queue with records := s.queue.records.drop 1 } } : State).placeLoss := by
  rw [List.drop_one]
  rfl

theorem State.recordWritten_moves (s : State) (i : Fin 8) : s.Moves (s.recordWritten i) := by
  rw [State.recordWritten_eq]
  have hcounted : s.Moves { s with arb := { s.arb with burstCount := s.arb.burstCount - 1 } } :=
    (State.Move.burst _ (.inr (Nat.sub_le _ _))).moves
  have hdone : s.Moves (s.recordDone i) := hcounted.still (by exact .refl (s.recordDone i))
  exact hdone.trans (State.Move.freed 1).moves

theorem State.judgeClosure_moves (s : State) (i : Fin 8) : s.Moves (s.judgeClosure i) := by
  unfold State.judgeClosure
  split
  · exact s.carryOutAbort_moves.still (State.releasePort_sameCore _)
  · split
    · split
      · exact s.completeFlush_moves.still (State.releasePort_sameCore _)
      · split
        · exact s.releasePort_sameCore.moves
        · exact (s.driveWord_sameCore 0).moves
    · split
      · exact (s.closeFull_moves i).still (State.releasePort_sameCore _)
      · exact (s.drivePad_sameCore 0).moves

theorem State.padsWritten_moves (s : State) (i : Fin 8) : s.Moves (s.padsWritten i) := by
  unfold State.padsWritten
  dsimp only
  refine State.Moves.still ?_ (State.releasePort_sameCore _)
  have hdone : s.Moves { s with drain := { s.drain with padInFlight := none } } :=
    State.SameCore.moves (by exact .refl s)
  split
  · exact (hdone.trans (State.closeLink_moves _ i .full)).trans (State.settleAbort_moves _ i)
  · exact hdone.trans (State.closeFull_moves _ i)

/-- The port is freed where a reset has abandoned the write (R44). -/
theorem execAbandoned_moves {s : State} {o : Host.Outcome State Fault Refusal} (h : Answers o s.Moves) :
    Answers (if s.abandonedWrite then .next s.releasePort else o) s.Moves := by
  split
  · exact .next s.releasePort_sameCore.moves
  · exact h

theorem execDrainGrant_moves (s : State) : Answers (execDrainGrant s) s.Moves := by
  unfold execDrainGrant
  split
  · refine .next (State.Moves.still ?_ (State.driveWord_sameCore _ 0))
    exact (State.Move.burst s.port.burstLimit (.inl rfl)).moves.still (by exact .refl _)
  · exact .next (.refl s)

theorem execDrainWriteCompletion_moves (s : State) : Answers (execDrainWriteCompletion s) s.Moves := by
  refine execAbandoned_moves ?_
  split
  · exact .next (.refl s)
  · split
    · exact .next (s.driveWord_sameCore _).moves
    · exact .next (.refl s)

theorem execRecordWriteCompletion_moves (s : State) : Answers (execRecordWriteCompletion s) s.Moves := by
  refine execAbandoned_moves ?_
  split
  · next k i _ _ =>
    split
    · exact .next ((s.recordWritten_moves i).trans (State.judgeClosure_moves _ i))
    · exact .next (.refl s)
  · exact .next (.refl s)

theorem execPadWriteCompletion_moves (s : State) : Answers (execPadWriteCompletion s) s.Moves := by
  refine execAbandoned_moves ?_
  split
  · next k i _ _ =>
    split
    · split
      · exact .next (s.drivePad_sameCore _).moves
      · exact .next (s.padsWritten_moves i)
    · exact .next (.refl s)
  · exact .next (.refl s)

theorem execBurstEnd_moves (s : State) : Answers (execBurstEnd s) s.Moves := by
  unfold execBurstEnd
  split
  · exact .next s.releasePort_sameCore.moves
  · exact .next (.refl s)

theorem execFlushComplete_moves (s : State) : Answers (execFlushComplete s) s.Moves := by
  unfold execFlushComplete
  split
  · exact .next (s.completeFlush_moves.still (State.arbitrate_sameCore _))
  · exact .next (.refl s)

theorem execAbortCarriedOut_moves (s : State) : Answers (execAbortCarriedOut s) s.Moves := by
  unfold execAbortCarriedOut
  split
  · exact .next (s.carryOutAbort_moves.still (State.arbitrate_sameCore _))
  · exact .next (.refl s)

/-- A placement is a removal of no record. -/
theorem State.placeLoss_moves (s : State) : s.Moves s.placeLoss :=
  (State.Move.freed (s := s) 0).moves

theorem continueDrain_moves (s : State) : s.Moves s.continueDrain.1 := by
  unfold State.continueDrain
  split
  · exact .refl s
  · split
    · exact .refl s
    · split
      · exact State.Moves.still (State.SameCore.moves (by exact .refl s)) (State.arbitrate_sameCore _)
      · split
        · exact (s.activateLink_sameCore _).moves.still (State.arbitrate_sameCore _)
        · exact s.starve_moves

theorem startDrainEffect_moves (ops : List Byte) (s : State) : s.Moves (startDrainEffect ops s).1 := by
  unfold startDrainEffect
  split
  · exact .refl s
  · split
    · exact continueDrain_moves s
    · split
      · exact .refl s
      · refine State.SameCore.moves ?_
        unfold State.startDrainAt
        dsimp only
        (repeat' split) <;> simp [State.SameCore]

theorem stopDrainEffect_moves (ops : List Byte) (s : State) : s.Moves (stopDrainEffect ops s).1 := by
  have hstopped : s.Moves ({ s with drain := { s.drain with state := .stopped } } : State).endMark :=
    State.Moves.trans (State.SameCore.moves (by exact .refl s)) (State.endMark_moves _)
  unfold stopDrainEffect
  split
  · exact hstopped.still (State.arbitrate_sameCore _)
  · exact hstopped.still (State.arbitrate_sameCore _)
  · exact .refl s
  · exact .refl s

theorem flushEffect_moves (ops : List Byte) (s : State) : s.Moves (flushEffect ops s).1 := by
  unfold flushEffect
  split
  · exact .refl s
  · split
    · exact .refl s
    · dsimp only
      have hmarked : s.Moves { s with drain := { s.drain with mark := some ⟨s.depth, .flush⟩ } } :=
        State.SameCore.moves (by exact .refl s)
      split
      · exact (hmarked.trans (State.completeFlush_moves _)).still (State.arbitrate_sameCore _)
      · exact hmarked

theorem abortDrainEffect_moves (ops : List Byte) (s : State) : s.Moves (abortDrainEffect ops s).1 := by
  have hstopped : s.Moves ({ s with drain := { s.drain with state := .stopped } } : State).endMark :=
    State.Moves.trans (State.SameCore.moves (by exact .refl s)) (State.endMark_moves _)
  unfold abortDrainEffect
  split
  · exact .refl s
  · split
    · dsimp only
      split
      · exact (hstopped.still (by exact .refl _)).still (State.arbitrate_sameCore _)
      · exact (hstopped.trans (State.carryOutAbort_moves _)).still (State.arbitrate_sameCore _)
    · exact .refl s

theorem popEventFrame_moves (f : Frame) (s : State) : s.Moves (popEventFrame.effect f s).1 := by
  have hpopped : s.Moves ({ s with queue := { s.queue with records := s.queue.records.tail } } : State).placeLoss := by
    rw [← List.drop_one]
    exact (State.Move.freed 1).moves
  simp only [popEventFrame]
  split
  · exact .refl s
  · split
    · exact hpopped.still (State.arbitrate_sameCore _)
    · exact .refl s
  · exact .refl s

theorem discardQueueEffect_moves (ops : List Byte) (s : State) : s.Moves (discardQueueEffect ops s).1 := by
  have hdiscarded : s.Moves ({ s with queue := { s.queue with records := [] } } : State).placeLoss := by
    rw [← List.drop_length (l := s.queue.records)]
    exact (State.Move.freed _).moves
  unfold discardQueueEffect
  split
  · exact .refl s
  · exact hdiscarded.still (State.arbitrate_sameCore _)

end Sys2Proof.Machine
end

section
/-! Every command is a chain of moves: the master bus, the regions, the monitor, time and the frames. -/

namespace Sys2Proof.Machine

/-! ### The master bus and the Prime Engine -/

theorem execWriteGrant_moves (s : State) : Answers (execWriteGrant s) s.Moves := by
  unfold execWriteGrant
  split
  · exact .next (.refl s)
  · next c _ =>
    split
    · exact .next (.refl s)
    · have hchecked := s.checkParity_moves .write c.addr c.enables c.data c.parity
      have hcompleted : ∀ {u : State} (mberr : Bool), s.Moves u → s.Moves (u.completeRefused c mberr) :=
        fun {u} mberr h => h.still (by simp [State.SameCore, State.completeRefused])
      dsimp only
      split
      · exact .next (hchecked.still (by exact .refl _))
      · exact .next (hcompleted _ (hchecked.trans (State.countClash_moves _ c)))
      · exact .next (hcompleted _ (hchecked.trans (State.countRefusal_moves _ _ _ c)))
      · exact .next (hcompleted _ (hchecked.trans (State.countRefusal_moves _ _ _ c)))

theorem State.answerMaster_sameCore (s : State) (d : Option BusData) : s.SameCore (s.answerMaster d) := by
  unfold State.answerMaster
  (repeat' split) <;> exact .refl s

theorem execWriteCompletion_moves (s : State) : Answers (execWriteCompletion s) s.Moves := by
  unfold execWriteCompletion
  split
  · exact .next (.refl s)
  · next m _ =>
    split
    · have hanswered := (s.answerMaster_sameCore none).moves
      exact .next ((hanswered.trans (State.consumeWrite_moves _ m.addr m.enables m.data)).still
        (State.releasePort_sameCore _))
    · exact .next (.refl s)

theorem execReadCompletion_moves (data : Word) (parity : BitVec 2) (s : State) :
    Answers (execReadCompletion data parity s) s.Moves := by
  unfold execReadCompletion
  split
  · exact .next (.refl s)
  · next m _ =>
    split
    · have hchecked := (s.answerMaster_sameCore (some ⟨data, parity⟩)).moves.trans
        (State.checkParity_moves _ .read m.addr m.enables data parity)
      exact .next ((hchecked.trans (State.consumeRead_moves _ m.addr m.enables data parity)).still
        (State.releasePort_sameCore _))
    · exact .next (.refl s)

theorem execPrimeGrant_moves (s : State) : Answers (execPrimeGrant s) s.Moves := by
  unfold execPrimeGrant
  split
  · split
    · exact .next (.refl s)
    · next r _ =>
      split
      · exact .next (State.SameCore.moves (by exact .refl s))
      · have hgranted : s.Moves { s with arb := { s.arb with award := none, lastBackground := .prime } } :=
          State.SameCore.moves (by exact .refl s)
        exact .next (((hgranted.trans (State.completePriming_moves _ r)).trans (State.primeStep_moves _)).still
          (State.arbitrate_sameCore _))
  · exact .next (.refl s)

theorem execPrimeReadCompletion_moves (data : Word) (parity : BitVec 2) (s : State) :
    Answers (execPrimeReadCompletion data parity s) s.Moves := by
  unfold execPrimeReadCompletion
  split
  · next p m _ _ =>
    split
    · have htaken := (s.checkParity_moves .read m.addr m.enables data parity).still
        (State.takePrime_sameCore _ p data)
      exact .next (((htaken.still (by exact .refl _)).trans (State.primeStep_moves _)).still
        (State.releasePort_sameCore _))
    · exact .next (.refl s)
  · exact .next (.refl s)

/-! ### The regions and the monitor -/

theorem State.regionCommand_moves {s : State} (index : Byte) (allowed : Region → Bool) {effect : Fin 32 → State}
    (h : ∀ r, s.Moves (effect r)) : s.Moves (s.regionCommand index allowed effect).1 := by
  unfold State.regionCommand
  split
  · exact .refl s
  · next r _ =>
    split
    · exact h r
    · exact .refl s

theorem State.enableRegion_moves (s : State) (r : Fin 32) : s.Moves (s.enableRegion r) := by
  unfold State.enableRegion
  split
  · exact (s.modRegion_sameCore r _).moves
  · refine State.Moves.still ?_ (State.arbitrate_sameCore _)
    have hactive := (s.modRegion_sameCore r Region.activate).moves
    split
    · exact hactive.trans (State.primeStep_moves _)
    · exact hactive

theorem enableRegionEffect_moves (ops : List Byte) (s : State) : s.Moves (enableRegionEffect ops s).1 := by
  unfold enableRegionEffect
  split
  · exact .refl s
  · exact State.regionCommand_moves _ _ s.enableRegion_moves

theorem State.disableRegion_moves (s : State) (r : Fin 32) : s.Moves (s.disableRegion r) := by
  have hleft : s.SameCore (((s.invalidate r).dropEntries r).modRegion r
      fun x => { x.clearIntegrator with state := .idle }) := by
    simp [State.SameCore]
  unfold State.disableRegion
  dsimp only
  split
  · exact ((hleft.moves.still (by exact .refl _)).trans (State.primeLeft_moves _)).still
      (State.arbitrate_sameCore _)
  · exact hleft.moves

theorem disableRegionEffect_moves (ops : List Byte) (s : State) : s.Moves (disableRegionEffect ops s).1 := by
  unfold disableRegionEffect
  split
  · exact .refl s
  · exact State.regionCommand_moves _ _ s.disableRegion_moves

theorem State.setThresholds_moves (s : State) (alert trip : Word) (r : Fin 32) :
    s.Moves (s.setThresholds alert trip r) := by
  by_cases htrip : trip = 0
  · rw [State.setThresholds, if_pos htrip]
    exact State.SameCore.moves (by exact .refl s)
  · rw [State.setThresholds_nonzero htrip]
    have hset : s.Moves (s.thresholdsSet alert trip r) := (s.modRegion_sameCore r _).moves
    exact ((hset.trans (State.judgeTrip_moves _ r none)).still (State.modRegion_sameCore _ r _)).still
      (State.arbitrate_sameCore _)

theorem setThresholdsEffect_moves (ops : List Byte) (s : State) : s.Moves (setThresholdsEffect ops s).1 := by
  unfold setThresholdsEffect
  split
  · split
    · exact .refl s
    · split
      · exact .refl s
      · split
        · exact s.setThresholds_moves _ _ _
        · exact .refl s
  · exact .refl s

theorem State.regionCommand_sameCore {s : State} (index : Byte) (allowed : Region → Bool)
    {effect : Fin 32 → State} (h : ∀ r, s.SameCore (effect r)) :
    s.SameCore (s.regionCommand index allowed effect).1 := by
  unfold State.regionCommand
  split
  · exact .refl s
  · next r _ =>
    split
    · exact h r
    · exact .refl s

theorem stageRegionEffect_sameCore (ops : List Byte) (s : State) : s.SameCore (stageRegionEffect ops s).1 := by
  unfold stageRegionEffect
  split <;> exact .refl s

theorem commitRegionEffect_sameCore (ops : List Byte) (s : State) : s.SameCore (commitRegionEffect ops s).1 := by
  unfold commitRegionEffect
  (repeat' split) <;> exact .refl s

theorem releaseRegionEffect_sameCore (ops : List Byte) (s : State) : s.SameCore (releaseRegionEffect ops s).1 := by
  unfold releaseRegionEffect
  split
  · exact .refl s
  · exact State.regionCommand_sameCore _ _ fun r => .refl s

theorem setSenseEffect_sameCore (ops : List Byte) (s : State) : s.SameCore (setSenseEffect ops s).1 := by
  unfold setSenseEffect
  split
  · exact State.regionCommand_sameCore _ _ fun r => .refl s
  · exact .refl s

theorem clearTripEffect_sameCore (ops : List Byte) (s : State) : s.SameCore (clearTripEffect ops s).1 := by
  unfold clearTripEffect
  split
  · exact .refl s
  · exact State.regionCommand_sameCore _ _ fun r => .refl s

theorem clearCountsEffect_sameCore (ops : List Byte) (s : State) : s.SameCore (clearCountsEffect ops s).1 := by
  unfold clearCountsEffect
  split
  · exact .refl s
  · exact State.regionCommand_sameCore _ _ fun r => .refl s

theorem armEffect_moves (ops : List Byte) (s : State) : s.Moves (armEffect ops s).1 := by
  unfold armEffect
  split
  · exact .refl s
  · split
    · exact .refl s
    · have harmed : s.SameCore s.armed := by simp [State.SameCore, State.armed]
      exact (harmed.moves.trans (State.primeStep_moves _)).still (State.arbitrate_sameCore _)

theorem disarmEffect_moves (ops : List Byte) (s : State) : s.Moves (disarmEffect ops s).1 := by
  unfold disarmEffect
  split
  · exact .refl s
  · rw [State.disarmMonitor_eq]
    have hstood : s.SameCore s.stoodBy := by simp [State.SameCore, State.stoodBy]
    exact (hstood.moves.trans (State.primeLeft_moves _)).still (State.arbitrate_sameCore _)

theorem State.startFreeze_moves (s : State) : s.Moves s.startFreeze := by
  unfold State.startFreeze
  dsimp only
  have hrecorded : ∀ b, s.Moves (s.createRecord b) := fun b => (State.Move.created b).moves
  split
  · exact (hrecorded _).still (by exact .refl _)
  · exact (hrecorded _).trans (State.Move.frozen .incomplete (by decide)).moves

theorem execSnapEdge_moves (s : State) : Answers (execSnapEdge s) s.Moves := by
  have hrisen : s.Moves { s with monitor := { s.monitor with snapHigh := true } } :=
    State.SameCore.moves (by exact .refl s)
  unfold execSnapEdge
  split
  · exact .next (.refl s)
  · dsimp only
    split
    · exact .next ((hrisen.trans (State.startFreeze_moves _)).still (State.arbitrate_sameCore _))
    · exact .next hrisen

/-! ### Resets and time -/

theorem execFullReset_moves (s : State) : Answers (execFullReset s) s.Moves := by
  unfold execFullReset
  split
  · exact .next ((State.Move.fullReset .lineFull).moves.still (by exact .refl _))
  · exact .next (.refl s)

theorem execPartialReset_moves (s : State) : Answers (execPartialReset s) s.Moves := by
  unfold execPartialReset
  split
  · exact .next (State.Move.partialReset.moves.still (by exact .refl _))
  · exact .next (.refl s)

theorem State.tick_moves (s : State) : s.Moves s.tick :=
  ((State.Move.ticked.moves.trans (State.settleTick_moves _)).still (State.arbitrate_sameCore _))

theorem execTclkPeriod_moves (s : State) : Answers (execTclkPeriod s) s.Moves := by
  unfold execTclkPeriod
  split
  · exact .next s.tick_moves
  · next h => exact .next (State.Move.counted h).moves

theorem execDecayTick_moves (s : State) : Answers (execDecayTick s) s.Moves := by
  unfold execDecayTick
  split
  · exact .next (State.Move.reloaded.moves.still (by simp [State.SameCore]))
  · exact .next (.refl s)

theorem execSettleExpiry_moves (s : State) : Answers (execSettleExpiry s) s.Moves := by
  unfold execSettleExpiry
  split
  · exact .next (.refl s)
  · next e _ =>
    have hdropped : s.Moves (s.dropEntry e.addr) := State.SameCore.moves (by exact .refl s)
    exact .next ((hdropped.trans (State.recordChange_moves _ e.region e.addr e.confirmed e.candidate true false)).still
      (State.arbitrate_sameCore _))

/-! ### Frames -/

theorem readNoticeFrame_moves (f : Frame) (s : State) : s.Moves (readNoticeFrame.effect f s).1 := by
  simp only [readNoticeFrame]
  split
  · dsimp only
    split
    · exact (State.Move.cleared _).moves
    · exact .refl s
  · exact .refl s

theorem clearNoticeEffect_moves (ops : List Byte) (s : State) : s.Moves (clearNoticeEffect ops s).1 := by
  unfold clearNoticeEffect
  split
  · exact (State.Move.cleared _).moves
  · exact .refl s

theorem exchangeBytes_moves (spec : FrameSpec) (ops : List Byte) (n : Nat) (s : State) :
    s.Moves (exchangeBytes spec ops n s) := by
  induction n generalizing s with
  | zero => exact .refl s
  | succ n ih => exact (State.Move.line (.exchanged spec ops)).moves.trans (ih _)

theorem closeFrame_moves {spec : FrameSpec} (h : ∀ f u, State.Moves u (spec.effect f u).1) (s : State) :
    s.Moves (closeFrame spec s) := by
  unfold closeFrame
  split
  · next hnone => exact (State.Move.line (.released hnone)).moves
  · next f _ =>
    split
    · exact (State.Move.line (.ended _)).moves
    · split
      · exact (h f s).trans (State.Move.line (.ended _)).moves
      · exact .refl s

/-- A frame is a chain of moves where the effect of its command is. -/
theorem runFrame_moves {spec : FrameSpec} (h : ∀ f u, State.Moves u (spec.effect f u).1) (ops : List Byte)
    (act : FrameAct) (s : State) : Answers (.next (runFrame spec ops act s)) s.Moves := by
  refine .next ?_
  have hopened : s.Moves (openFrame s) := (State.Move.line .opened).moves
  cases act with
  | whole extra =>
    simp only [runFrame]
    split
    · exact .refl s
    · exact (hopened.trans (exchangeBytes_moves spec ops _ _)).trans (closeFrame_moves h _)
  | start =>
    simp only [runFrame]
    split
    · exact .refl s
    · exact hopened
  | clockRises => exact (State.Move.line (.rose spec ops)).moves
  | clockFalls => exact (State.Move.line (.fell spec)).moves
  | byte => exact (State.Move.line (.exchanged spec ops)).moves
  | finish => exact closeFrame_moves h s

theorem plainFrame_moves {code : Byte} {effect : List Byte → State → State × ResultCode}
    (h : ∀ ops u, State.Moves u (effect ops u).1) (ops : List Byte) (act : FrameAct) (s : State) :
    Answers (.next (runFrame (plainFrame code effect) ops act s)) s.Moves :=
  runFrame_moves (fun f u => h f.ops u) ops act s

end Sys2Proof.Machine
end

section
/-! The case split over the commands: each is a chain of the moves of `State.Move`. -/

namespace Sys2Proof.Machine

/-! ### The commands that touch nothing of the core -/

theorem setNoticeMaskEffect_sameCore (ops : List Byte) (s : State) : s.SameCore (setNoticeMaskEffect ops s).1 := by
  unfold setNoticeMaskEffect
  split <;> exact .refl s

theorem readRegionFrame_sameCore (f : Frame) (s : State) : s.SameCore (readRegionFrame.effect f s).1 := by
  simp only [readRegionFrame]
  (repeat' split) <;> exact .refl s

theorem readLinkFrame_sameCore (f : Frame) (s : State) : s.SameCore (readLinkFrame.effect f s).1 := by
  simp only [readLinkFrame]
  (repeat' split) <;> exact .refl s

theorem readShadowFrame_sameCore (f : Frame) (s : State) : s.SameCore (readShadowFrame.effect f s).1 := by
  simp only [readShadowFrame]
  (repeat' split) <;> exact .refl s

theorem setShadowPointerEffect_sameCore (ops : List Byte) (s : State) :
    s.SameCore (setShadowPointerEffect ops s).1 := by
  unfold setShadowPointerEffect
  (repeat' split) <;> exact .refl s

theorem loadLinkEffect_sameCore (ops : List Byte) (s : State) : s.SameCore (loadLinkEffect ops s).1 := by
  unfold loadLinkEffect
  dsimp only
  (repeat' split) <;> simp [State.SameCore]

theorem unloadLinkEffect_sameCore (ops : List Byte) (s : State) : s.SameCore (unloadLinkEffect ops s).1 := by
  unfold unloadLinkEffect
  (repeat' split) <;> exact .refl s

theorem resumeEffect_sameCore (ops : List Byte) (s : State) : s.SameCore (resumeEffect ops s).1 := by
  unfold resumeEffect
  (repeat' split) <;> exact .refl s

theorem execMasterCycleArrives_moves (moe mwe : Bool) (addr : Addr) (enables : BitVec 2) (data : Word)
    (parity : BitVec 2) (s : State) : Answers (execMasterCycleArrives moe mwe addr enables data parity s) s.Moves := by
  unfold execMasterCycleArrives
  split
  · exact .next (.refl s)
  · exact .next (State.Moves.still (State.SameCore.moves (by exact .refl s)) (State.arbitrate_sameCore _))

theorem State.endMasterCycle_sameCore (s : State) : s.SameCore s.endMasterCycle := by
  simp [State.SameCore]

theorem execReadGrant_moves (s : State) : Answers (execReadGrant s) s.Moves := by
  unfold execReadGrant
  split
  · exact .next (.refl s)
  · split <;> exact .next (State.SameCore.moves (by exact .refl s))

theorem execBadCommand_moves (command : Option Byte) (act : FrameAct) (s : State) :
    Answers (execBadCommand command act s) s.Moves := by
  unfold execBadCommand
  split
  · exact .next (.refl s)
  · exact runFrame_moves (fun _ u => .refl u) _ act s

/-! ### Every command -/

theorem exec_moves (c : Instr) (s : State) : Answers (exec c s) s.Moves := by
  cases c with
  | readStatus act => exact runFrame_moves (fun _ u => .refl u) [] act s
  | readNotice act => exact runFrame_moves readNoticeFrame_moves [] act s
  | clearNotice ops act => exact plainFrame_moves clearNoticeEffect_moves ops act s
  | setNoticeMask ops act => exact plainFrame_moves (fun o u => (setNoticeMaskEffect_sameCore o u).moves) ops act s
  | stageRegion ops act => exact plainFrame_moves (fun o u => (stageRegionEffect_sameCore o u).moves) ops act s
  | commitRegion ops act => exact plainFrame_moves (fun o u => (commitRegionEffect_sameCore o u).moves) ops act s
  | readRegion ops act => exact runFrame_moves (fun f u => (readRegionFrame_sameCore f u).moves) ops act s
  | enableRegion ops act => exact plainFrame_moves enableRegionEffect_moves ops act s
  | disableRegion ops act => exact plainFrame_moves disableRegionEffect_moves ops act s
  | releaseRegion ops act => exact plainFrame_moves (fun o u => (releaseRegionEffect_sameCore o u).moves) ops act s
  | setSense ops act => exact plainFrame_moves (fun o u => (setSenseEffect_sameCore o u).moves) ops act s
  | clearTrip ops act => exact plainFrame_moves (fun o u => (clearTripEffect_sameCore o u).moves) ops act s
  | clearCounts ops act => exact plainFrame_moves (fun o u => (clearCountsEffect_sameCore o u).moves) ops act s
  | setThresholds ops act => exact plainFrame_moves setThresholdsEffect_moves ops act s
  | loadLink ops act => exact plainFrame_moves (fun o u => (loadLinkEffect_sameCore o u).moves) ops act s
  | readLink ops act => exact runFrame_moves (fun f u => (readLinkFrame_sameCore f u).moves) ops act s
  | startDrain ops act => exact plainFrame_moves startDrainEffect_moves ops act s
  | startDrainContinue act => exact plainFrame_moves startDrainEffect_moves [0xFF] act s
  | stopDrain act => exact plainFrame_moves stopDrainEffect_moves [] act s
  | flush act => exact plainFrame_moves flushEffect_moves [] act s
  | abortDrain act => exact plainFrame_moves abortDrainEffect_moves [] act s
  | popEvent act => exact runFrame_moves popEventFrame_moves [] act s
  | discardQueue act => exact plainFrame_moves discardQueueEffect_moves [] act s
  | unloadLink ops act => exact plainFrame_moves (fun o u => (unloadLinkEffect_sameCore o u).moves) ops act s
  | arm act => exact plainFrame_moves armEffect_moves [] act s
  | disarm act => exact plainFrame_moves disarmEffect_moves [] act s
  | resume act => exact plainFrame_moves (fun o u => (resumeEffect_sameCore o u).moves) [] act s
  | setTimebase ops act => exact plainFrame_moves (fun o _ => (State.Move.timebase o).moves) ops act s
  | setOptions ops act => exact plainFrame_moves (fun o _ => (State.Move.options o).moves) ops act s
  | setShadowPointer ops act =>
    exact plainFrame_moves (fun o u => (setShadowPointerEffect_sameCore o u).moves) ops act s
  | readShadow ops act => exact runFrame_moves (fun f u => (readShadowFrame_sameCore f u).moves) ops act s
  | reset act => exact plainFrame_moves (fun _ _ => (State.Move.fullReset .command).moves) [] act s
  | badCommand command act => exact execBadCommand_moves command act s
  | masterCycleArrives moe mwe addr enables data parity =>
    exact execMasterCycleArrives_moves moe mwe addr enables data parity s
  | masterCycleWithdrawn => exact .next s.endMasterCycle_sameCore.moves
  | masterCycleEnds => exact .next s.endMasterCycle_sameCore.moves
  | writeGrant => exact execWriteGrant_moves s
  | readGrant => exact execReadGrant_moves s
  | primeGrant => exact execPrimeGrant_moves s
  | drainGrant => exact execDrainGrant_moves s
  | writeCompletion => exact execWriteCompletion_moves s
  | readCompletion data parity => exact execReadCompletion_moves data parity s
  | primeReadCompletion data parity => exact execPrimeReadCompletion_moves data parity s
  | drainWriteCompletion => exact execDrainWriteCompletion_moves s
  | recordWriteCompletion => exact execRecordWriteCompletion_moves s
  | padWriteCompletion => exact execPadWriteCompletion_moves s
  | burstEnd => exact execBurstEnd_moves s
  | snapEdge => exact execSnapEdge_moves s
  | snapLineFalls => exact .next (State.SameCore.moves (by exact .refl s))
  | powerOnReset snap rst => exact .next ((State.Move.fullReset .power).moves.still (by exact .refl _))
  | fullReset => exact execFullReset_moves s
  | partialReset => exact execPartialReset_moves s
  | baseTick => exact .next s.tick_moves
  | decayTick => exact execDecayTick_moves s
  | settleExpiry => exact execSettleExpiry_moves s
  | flushComplete => exact execFlushComplete_moves s
  | abortCarriedOut => exact execAbortCarriedOut_moves s
  | lossPlacement => exact .next (s.placeLoss_moves.still (State.arbitrate_sameCore _))
  | tclkPeriod => exact execTclkPeriod_moves s
  | rstLineRises => exact .next (State.SameCore.moves (by exact .refl s))

end Sys2Proof.Machine
end

section
/-! What each move keeps of the queue, of the ranges, of the port and of the notices, and so what every step keeps. -/

namespace Sys2Proof.Machine

/-! ### Entering records and setting notices -/

theorem State.enterRecord_queue (s : State) (x : Record) :
    (s.enterRecord x).queue = { s.queue with records := s.queue.records ++ [x] } := by
  unfold State.enterRecord
  dsimp only
  split <;> simp

/-- Setting a notice leaves the flags of the others as they are. -/
theorem State.setNotice_noticeSet_other (s : State) {n k : Notice} (h : n ≠ k) :
    (s.setNotice n).noticeSet k = s.noticeSet k := by
  cases n <;> cases k <;> simp [State.noticeSet, State.setNotice, Notice.bit, Notice.position] at h ⊢

theorem State.enterRecord_noticeSet_other (s : State) (x : Record) {k : Notice} (h : k ≠ .queueHigh) :
    (s.enterRecord x).noticeSet k = s.noticeSet k := by
  unfold State.enterRecord
  dsimp only
  split
  · exact State.setNotice_noticeSet_other _ h.symm
  · rfl

theorem State.createRecord_noticeSet_other (s : State) (b : Report) {k : Notice} (h : k ≠ .queueHigh)
    (h' : k ≠ .loss) : (s.createRecord b).noticeSet k = s.noticeSet k := by
  unfold State.createRecord
  dsimp only
  split
  · exact State.enterRecord_noticeSet_other _ _ h
  · exact State.setNotice_noticeSet_other _ h'.symm

theorem State.placeLoss_noticeSet_other (s : State) {k : Notice} (h : k ≠ .queueHigh) :
    s.placeLoss.noticeSet k = s.noticeSet k := by
  unfold State.placeLoss
  dsimp only
  split
  · exact State.enterRecord_noticeSet_other _ _ h
  · rfl

/-- A pending loss is placed at the tail of a queue with room (R115). -/
theorem State.placeLoss_queue_placed {s : State} (h : s.queue.lossCount ≠ 0) (hroom : s.queue.records.length < 64) :
    s.placeLoss.queue = { s.queue with
      records := s.queue.records ++
        [s.nextRecord { kind := .loss, valueA := s.queue.lossCount, valueB := s.queue.firstLost }]
      nextSeq := s.queue.nextSeq + 1
      lossCount := 0 } := by
  rw [State.placeLoss, if_pos ⟨h, hroom⟩, State.enterRecord_queue]

theorem State.placeLoss_of_not {s : State} (h : ¬(s.queue.lossCount ≠ 0 ∧ s.queue.records.length < 64)) :
    s.placeLoss = s :=
  if_neg h

/-! ### What the moves of the serial lines keep -/

/-- The moves of the serial lines leave everything outside the port as it is, and of the port the options. -/
theorem State.LineMove.frame {s t : State} (h : s.LineMove t) :
    t.queue = s.queue ∧ t.time = s.time ∧ t.arb = s.arb ∧ t.notices = s.notices ∧ t.path = s.path ∧
      t.port.burstLimit = s.port.burstLimit := by
  have hserial : ∀ {u : State}, SerialOnly s u → u.queue = s.queue ∧ u.time = s.time ∧ u.arb = s.arb ∧
      u.notices = s.notices ∧ u.path = s.path ∧ u.port.burstLimit = s.port.burstLimit := by
    intro u h
    rw [show u = _ from h]
    exact ⟨rfl, rfl, rfl, rfl, rfl, rfl⟩
  cases h with
  | opened => exact hserial (openFrame_serialOnly s)
  | rose spec ops => exact hserial (riseClock_serialOnly spec ops s)
  | fell spec => exact hserial (fallClock_serialOnly spec s)
  | exchanged spec ops => exact hserial (exchangeByte_serialOnly spec ops s)
  | released h => exact ⟨rfl, rfl, rfl, rfl, rfl, rfl⟩
  | ended result => exact ⟨rfl, rfl, rfl, rfl, rfl, rfl⟩

/-- The bits of the present byte suit the level of CFG_CLK (R172). -/
def bitsSuit (clock : Bool) (bits : Nat) : Prop :=
  (clock = true → 1 ≤ bits ∧ bits ≤ 8) ∧ (clock = false → bits ≤ 7)

theorem bitsSuit_high {bits : Nat} (h : 1 ≤ bits) (h' : bits ≤ 8) : bitsSuit true bits :=
  ⟨fun _ => ⟨h, h'⟩, nofun⟩

theorem bitsSuit_low {bits : Nat} (h : bits ≤ 7) : bitsSuit false bits :=
  ⟨nofun, fun _ => h⟩

theorem riseClock_portSound (spec : FrameSpec) (ops : List Byte) {s : State} (hs : s.portSound) :
    (riseClock spec ops s).portSound := by
  unfold riseClock
  split
  · split
    · next hbits => exact ⟨hs.1, bitsSuit_high (Nat.succ_pos _) (Nat.succ_le_of_lt (Nat.lt_succ_of_lt hbits))⟩
    · split
      · refine ⟨?_, bitsSuit_high (bits := 8) (by decide) (by decide)⟩
        simpa [endByte] using hs.1
      · exact hs
  · exact hs

/-- A byte begun leaves the lines as they are, and begins no frame. -/
theorem beginByte_port (spec : FrameSpec) (s : State) :
    (beginByte spec s).port.selected = s.port.selected ∧
      (beginByte spec s).port.frame.isSome = s.port.frame.isSome ∧
      (beginByte spec s).port.clock = s.port.clock ∧ (beginByte spec s).port.bits = s.port.bits := by
  unfold beginByte
  split <;> simp [*]

theorem fallClock_portSound (spec : FrameSpec) {s : State} (hs : s.portSound) : (fallClock spec s).portSound := by
  unfold fallClock
  split
  · split
    · next hshort => exact ⟨hs.1, bitsSuit_low (Nat.le_of_lt_succ hshort)⟩
    · obtain ⟨hselected, hbegun, _, _⟩ := beginByte_port spec s
      refine ⟨?_, bitsSuit_low (Nat.zero_le 7)⟩
      simpa [hselected, hbegun] using hs.1
  · exact hs

theorem exchangeByte_portSound (spec : FrameSpec) (ops : List Byte) {s : State} (hs : s.portSound) :
    (exchangeByte spec ops s).portSound := by
  unfold exchangeByte
  split
  · obtain ⟨hselected, hbegun, hclock, hbits⟩ := beginByte_port spec (endByte spec ops s)
    unfold State.portSound
    rw [hselected, hbegun, hclock, hbits]
    simpa [endByte, State.portSound] using hs
  · exact hs

theorem State.LineMove.portSound {s t : State} (h : s.LineMove t) (hs : s.portSound) : t.portSound := by
  cases h with
  | opened => exact ⟨fun _ => rfl, bitsSuit_low (Nat.zero_le 7)⟩
  | rose spec ops => exact riseClock_portSound spec ops hs
  | fell spec => exact fallClock_portSound spec hs
  | exchanged spec ops => exact exchangeByte_portSound spec ops hs
  | released h => exact ⟨fun hf => by simp [h] at hf, hs.2⟩
  | ended result => exact ⟨nofun, hs.2⟩

/-! ### What each move keeps -/

theorem State.queueSound_of_queue {s t : State} (h : t.queue = s.queue) (hs : s.queueSound) : t.queueSound := by
  unfold State.queueSound at *
  simpa [State.depth, h] using hs

theorem State.createRecord_queueSound {s : State} (b : Report) (hs : s.queueSound) :
    (s.createRecord b).queueSound := by
  obtain ⟨hdepth, hfull, hintact⟩ := hs
  simp only [State.depth] at hdepth hfull
  rcases Nat.lt_or_ge s.queue.records.length 64 with hroom | hroom
  · have hnone : s.queue.lossCount = 0 := by
      by_contra hloss
      exact absurd (hfull hloss) (Nat.ne_of_lt hroom)
    unfold State.queueSound State.depth
    rw [State.createRecord_queue_room hroom]
    refine ⟨by simpa using hroom, fun hloss => absurd hnone hloss, ?_⟩
    intro r hr
    rcases List.mem_append.mp hr with hr | hr
    · exact hintact r hr
    · rw [List.mem_singleton.mp hr]
      exact Record.make_intact _ _ _
  · unfold State.queueSound State.depth
    rw [State.createRecord_queue_full hroom]
    exact ⟨hdepth, fun _ => Nat.le_antisymm hdepth hroom, hintact⟩

/-- After a placement nothing is pending unless the queue is full, whatever was pending before. -/
theorem State.placeLoss_queueSound {s : State} (hdepth : s.queue.records.length ≤ 64)
    (hintact : ∀ r ∈ s.queue.records, xorWords r.words = 0) : s.placeLoss.queueSound := by
  by_cases h : s.queue.lossCount ≠ 0 ∧ s.queue.records.length < 64
  · unfold State.queueSound State.depth
    rw [State.placeLoss_queue_placed h.1 h.2]
    refine ⟨by simpa using h.2, fun hloss => absurd rfl hloss, ?_⟩
    intro r hr
    rcases List.mem_append.mp hr with hr | hr
    · exact hintact r hr
    · rw [List.mem_singleton.mp hr]
      exact Record.make_intact _ _ _
  · rw [State.placeLoss_of_not h]
    refine ⟨hdepth, fun hloss => ?_, hintact⟩
    exact Nat.le_antisymm hdepth (Nat.le_of_not_lt fun hroom => h ⟨hloss, hroom⟩)

theorem State.emptied_queueSound {s : State} (h : s.queue.records = []) (h' : s.queue.lossCount = 0) :
    s.queueSound := by
  simp [State.queueSound, State.depth, h, h']

theorem setOptionsEffect_queue (ops : List Byte) (s : State) :
    (setOptionsEffect ops s).1.queue.records = s.queue.records ∧
      (setOptionsEffect ops s).1.queue.lossCount = s.queue.lossCount := by
  unfold setOptionsEffect
  (repeat' split) <;> simp

theorem setTimebaseEffect_eq (ops : List Byte) (s : State) :
    (setTimebaseEffect ops s).1 = { s with time := (setTimebaseEffect ops s).1.time } := by
  unfold setTimebaseEffect
  (repeat' split) <;> rfl

theorem State.Move.queueSound {s t : State} (h : s.Move t) (hs : s.queueSound) : t.queueSound := by
  cases h with
  | still h => exact State.queueSound_of_queue h.1 hs
  | created b => exact State.createRecord_queueSound b hs
  | freed n =>
    refine State.placeLoss_queueSound ?_ fun r hr => hs.2.2 r (List.mem_of_mem_drop hr)
    have hdepth : s.queue.records.length ≤ 64 := hs.1
    simp only [List.length_drop]
    omega
  | noticed n h => exact hs
  | reported h => exact hs
  | cleared bits => exact hs
  | frozen c h => exact hs
  | options ops =>
    obtain ⟨hrecords, hloss⟩ := setOptionsEffect_queue ops s
    unfold State.queueSound State.depth at *
    rw [hrecords, hloss]
    exact hs
  | timebase ops =>
    rw [setTimebaseEffect_eq]
    exact hs
  | counted h => exact hs
  | ticked => exact State.queueSound_of_queue (by simp) hs
  | reloaded => exact hs
  | burst n h => exact hs
  | line h => exact State.queueSound_of_queue h.frame.1 hs
  | fullReset cause => exact State.emptied_queueSound (by simp [State.fullReset]) (by simp [State.fullReset])
  | partialReset => exact State.emptied_queueSound (by simp [State.partialReset]) (by simp [State.partialReset])

/-- The Timebase part of `State.rangesSound` (R165). -/
def Timebase.sound (x : Timebase) : Prop :=
  x.divisor ≤ 65536 ∧ x.count < x.divisor ∧ x.decayDivider ≤ 256 ∧
    (1 ≤ x.countdown ∧ x.countdown ≤ x.decayDivider) ∧ x.decayStep ≠ 0

/-- The options' part of `State.rangesSound` (R28, R117, R179). -/
def optionsSound (burstLimit burstCount highMark : Nat) : Prop :=
  (1 ≤ burstLimit ∧ burstLimit ≤ 16) ∧ burstCount ≤ 16 ∧ (1 ≤ highMark ∧ highMark ≤ 64)

theorem State.rangesSound_iff (s : State) :
    s.rangesSound ↔ optionsSound s.port.burstLimit s.arb.burstCount s.queue.highMark ∧ s.time.sound := by
  simp only [State.rangesSound, optionsSound, Timebase.sound, and_assoc]

theorem State.rangesSound_of_eq {s t : State} (hlimit : t.port.burstLimit = s.port.burstLimit)
    (hcount : t.arb.burstCount = s.arb.burstCount) (hmark : t.queue.highMark = s.queue.highMark)
    (htime : t.time = s.time) (hs : s.rangesSound) : t.rangesSound := by
  rw [State.rangesSound_iff] at *
  rwa [hlimit, hcount, hmark, htime]

theorem setOptionsEffect_rangesSound (ops : List Byte) {s : State} (hs : s.rangesSound) :
    (setOptionsEffect ops s).1.rangesSound := by
  unfold setOptionsEffect
  split
  · split
    · exact hs
    · split
      · exact hs
      · next hranges =>
        obtain ⟨⟨_, hcount, _⟩, htime⟩ := (State.rangesSound_iff s).mp hs
        rw [State.rangesSound_iff]
        simp only [not_or, Nat.not_lt] at hranges
        obtain ⟨hburst, hburst', hhigh, hhigh'⟩ := hranges
        exact ⟨⟨⟨hburst, hburst'⟩, hcount, hhigh, hhigh'⟩, htime⟩
  · exact hs

theorem zeroMeans_range {whole n : Nat} (hwhole : 1 ≤ whole) (h : n ≤ whole) :
    1 ≤ zeroMeans whole n ∧ zeroMeans whole n ≤ whole := by
  unfold zeroMeans
  split <;> omega

theorem setTimebaseEffect_rangesSound (ops : List Byte) {s : State} (hs : s.rangesSound) :
    (setTimebaseEffect ops s).1.rangesSound := by
  unfold setTimebaseEffect
  split
  · next p1 p0 divider step _ =>
    split
    · exact hs
    · split
      · exact hs
      · next hstep =>
        obtain ⟨hpos, hle⟩ := zeroMeans_range (whole := 65536) (by decide) (Nat.le_of_lt (wordOf p1 p0).isLt)
        obtain ⟨hpos', hle'⟩ := zeroMeans_range (whole := 256) (by decide) (Nat.le_of_lt divider.isLt)
        rw [State.rangesSound_iff] at *
        exact ⟨hs.1, hle, hpos, hle', ⟨hpos', Nat.le_refl _⟩, hstep⟩
  · exact hs

/-- The counters after a base tick (R166, R167). -/
theorem State.tickCounters_time (s : State) :
    s.tickCounters.time = { s.time with
      stamp := s.time.stamp + 1
      countdown := if s.time.countdown - 1 = 0 then s.time.decayDivider else s.time.countdown - 1 } := by
  unfold State.tickCounters
  dsimp only
  split <;> simp

theorem State.ticked_rangesSound {s : State} (hs : s.rangesSound) :
    ({ s with time := { s.time with count := 0 } } : State).tickCounters.rangesSound := by
  rw [State.rangesSound_iff] at *
  obtain ⟨hoptions, hdivisor, hcount, hdivider, ⟨hpos, hle⟩, hstep⟩ := hs
  refine ⟨by simpa using hoptions, ?_⟩
  rw [State.tickCounters_time]
  refine ⟨hdivisor, Nat.lt_of_le_of_lt (Nat.zero_le _) hcount, hdivider, ?_, hstep⟩
  dsimp only
  split <;> omega

theorem State.Move.rangesSound {s t : State} (h : s.Move t) (hs : s.rangesSound) : t.rangesSound := by
  obtain ⟨⟨hburst, hcount, hmark⟩, hdivisor, hbelow, hdivider, ⟨hpos, hle⟩, hstep⟩ := (State.rangesSound_iff s).mp hs
  cases h with
  | still h =>
    obtain ⟨hqueue, htime, hcount, hlimit, _⟩ := h
    exact State.rangesSound_of_eq hlimit hcount (by rw [hqueue]) htime hs
  | created b => exact State.rangesSound_of_eq (by simp) (by simp) (by simp) (by simp) hs
  | freed n => exact State.rangesSound_of_eq (by simp) (by simp) (by simp) (by simp) hs
  | noticed n h => exact hs
  | reported h => exact hs
  | cleared bits => exact hs
  | frozen c h => exact hs
  | options ops => exact setOptionsEffect_rangesSound ops hs
  | timebase ops => exact setTimebaseEffect_rangesSound ops hs
  | counted h =>
    rw [State.rangesSound_iff]
    refine ⟨⟨hburst, hcount, hmark⟩, hdivisor, ?_, hdivider, ⟨hpos, hle⟩, hstep⟩
    dsimp only
    omega
  | ticked => exact State.ticked_rangesSound hs
  | reloaded =>
    rw [State.rangesSound_iff]
    exact ⟨⟨hburst, hcount, hmark⟩, hdivisor, hbelow, hdivider, ⟨Nat.le_trans hpos hle, Nat.le_refl _⟩, hstep⟩
  | burst n h =>
    rw [State.rangesSound_iff]
    refine ⟨⟨hburst, ?_, hmark⟩, hdivisor, hbelow, hdivider, ⟨hpos, hle⟩, hstep⟩
    dsimp only
    omega
  | line h =>
    obtain ⟨hqueue, htime, harb, _, _, hlimit⟩ := h.frame
    exact State.rangesSound_of_eq hlimit (by rw [harb]) (by rw [hqueue]) htime hs
  | fullReset cause =>
    rw [State.rangesSound_iff]
    simp [State.fullReset, optionsSound, Timebase.sound, Timebase.afterReset, State.resetPath]
  | partialReset =>
    rw [State.rangesSound_iff]
    refine ⟨?_, by simpa [State.partialReset] using ((State.rangesSound_iff s).mp hs).2⟩
    simpa [State.partialReset, State.resetPath, optionsSound] using And.intro hburst hmark

theorem State.Move.portSound {s t : State} (h : s.Move t) (hs : s.portSound) : t.portSound := by
  have hsame : ∀ {u : State}, u.port = s.port → u.portSound := by
    intro u hu
    unfold State.portSound at *
    rwa [hu]
  cases h with
  | still h =>
    obtain ⟨_, _, _, _, hselected, hframe, hclock, hbits, _⟩ := h
    unfold State.portSound at *
    rwa [hselected, hframe, hclock, hbits]
  | created b => exact hsame (by simp)
  | freed n => exact hsame (by simp)
  | noticed n h => exact hs
  | reported h => exact hs
  | cleared bits => exact hs
  | frozen c h => exact hs
  | options ops =>
    unfold setOptionsEffect
    (repeat' split) <;> exact hs
  | timebase ops => exact hsame (by rw [setTimebaseEffect_eq])
  | counted h => exact hs
  | ticked => exact hsame (by simp)
  | reloaded => exact hs
  | burst n h => exact hs
  | line h => exact h.portSound hs
  | fullReset cause =>
    refine ⟨fun hframe => ?_, ?_⟩
    · simp [State.fullReset] at hframe
    · simpa [State.fullReset] using hs.2
  | partialReset => exact hsame (by simp [State.partialReset])

theorem State.noticesSound_of_eq {s t : State} (hflags : t.notices.flags = s.notices.flags)
    (hcompleteness : t.notices.completeness = s.notices.completeness)
    (hreported : t.path.clashReported = s.path.clashReported) (hs : s.noticesSound) : t.noticesSound := by
  unfold State.noticesSound State.noticeSet at *
  rwa [hflags, hcompleteness, hreported]

/-- A move that touches neither SNAP_DONE nor CLASH keeps the two side states in step. -/
theorem State.noticesSound_of_noticeSet {s t : State} (hsnap : t.noticeSet .snapDone = s.noticeSet .snapDone)
    (hclash : t.noticeSet .clash = s.noticeSet .clash)
    (hcompleteness : t.notices.completeness = s.notices.completeness)
    (hreported : t.path.clashReported = s.path.clashReported) (hs : s.noticesSound) : t.noticesSound := by
  unfold State.noticesSound at *
  rwa [hsnap, hclash, hcompleteness, hreported]

/-- A clearing clears the flags named (R180). -/
theorem State.clearNotices_noticeSet (s : State) (bits : BitVec 11) (k : Notice) :
    (s.clearNotices bits).noticeSet k = (s.noticeSet k && !bits.getLsbD k.position) := by
  cases k <;> simp [State.clearNotices, State.noticeSet, Notice.position]

/-- A clearing clears the side state of a flag it clears (R180, R36). -/
theorem State.clearNotices_sideStates (s : State) (bits : BitVec 11) :
    (s.clearNotices bits).notices.completeness =
        (if s.noticeSet .snapDone && bits.getLsbD Notice.snapDone.position then .none
          else s.notices.completeness) ∧
      (s.clearNotices bits).path.clashReported =
        (if s.noticeSet .clash && bits.getLsbD Notice.clash.position then false else s.path.clashReported) := by
  simp [State.clearNotices, State.noticeSet]

theorem State.clearNotices_noticesSound (bits : BitVec 11) {s : State} (hs : s.noticesSound) :
    (s.clearNotices bits).noticesSound := by
  obtain ⟨hsnap, hclash⟩ := hs
  obtain ⟨hcompleteness, hreported⟩ := s.clearNotices_sideStates bits
  unfold State.noticesSound
  rw [hcompleteness, hreported, State.clearNotices_noticeSet, State.clearNotices_noticeSet]
  constructor
  · cases hbit : bits.getLsbD Notice.snapDone.position <;> simp [hsnap]
  · cases hset : s.noticeSet .clash
    · simpa [hset] using hclash
    · cases hbit : bits.getLsbD Notice.clash.position <;> simp

theorem State.noticed_noticesSound {n : Notice} (h : n ≠ .snapDone) {s : State} (hs : s.noticesSound) :
    (s.setNotice n).noticesSound := by
  obtain ⟨hsnap, hclash⟩ := hs
  refine ⟨?_, fun hreported => State.noticeSet_setNotice (hclash hreported) n⟩
  rw [State.setNotice_noticeSet_other s h]
  exact hsnap

theorem State.endFreeze_noticesSound {c : Completeness} (h : c ≠ .none) {s : State} (hs : s.noticesSound) :
    (s.endFreeze c).noticesSound := by
  refine ⟨⟨fun hc => absurd hc h, fun hunset => ?_⟩, fun hreported => State.noticeSet_setNotice (hs.2 hreported) _⟩
  exact (nomatch (s.setNotice_noticeSet .snapDone).symm.trans hunset)

theorem State.Move.noticesSound {s t : State} (h : s.Move t) (hs : s.noticesSound) : t.noticesSound := by
  cases h with
  | still h =>
    obtain ⟨_, _, _, _, _, _, _, _, hflags, hcompleteness, hreported⟩ := h
    exact State.noticesSound_of_eq hflags hcompleteness hreported hs
  | created b =>
    exact State.noticesSound_of_noticeSet (s.createRecord_noticeSet_other b (by decide) (by decide))
      (s.createRecord_noticeSet_other b (by decide) (by decide)) (by simp) (by simp) hs
  | freed n =>
    exact State.noticesSound_of_noticeSet (State.placeLoss_noticeSet_other _ (by decide))
      (State.placeLoss_noticeSet_other _ (by decide)) (by simp) (by simp) hs
  | noticed n h => exact State.noticed_noticesSound h hs
  | reported h => exact ⟨hs.1, fun _ => h⟩
  | cleared bits => exact State.clearNotices_noticesSound bits hs
  | frozen c h => exact State.endFreeze_noticesSound h hs
  | options ops =>
    unfold setOptionsEffect
    (repeat' split) <;> exact hs
  | timebase ops =>
    rw [setTimebaseEffect_eq]
    exact hs
  | counted h => exact hs
  | ticked => exact State.noticesSound_of_eq (by simp) (by simp) (by simp) hs
  | reloaded => exact hs
  | burst n h => exact hs
  | line h =>
    obtain ⟨_, _, _, hnotices, hpath, _⟩ := h.frame
    exact State.noticesSound_of_eq (by rw [hnotices]) (by rw [hnotices]) (by rw [hpath]) hs
  | fullReset cause =>
    simp [State.fullReset, State.noticesSound, State.noticeSet, State.resetPath]
  | partialReset =>
    simp [State.partialReset, State.noticesSound, State.noticeSet, State.resetPath]

/-! ### What every step keeps -/

/-- A step keeps what every command keeps, whatever is pending. -/
theorem step_keeps_of_moves {P : State → Prop} (hmove : ∀ {s t : State}, s.Move t → P s → P t)
    (hpending : ∀ (s : State) (rest : List Instr), P s → P { s with pending := rest }) {s t : State}
    (hstep : step s = .next t) (hs : P s) : P t := by
  unfold step at hstep
  split at hstep
  · cases hstep
    exact hs
  · next c rest _ =>
    obtain ⟨u, hu, hmoves⟩ := exec_moves c { s with pending := rest }
    rw [hu] at hstep
    cases hstep
    exact hmoves.keeps hmove (hpending s rest hs)

end Sys2Proof.Machine
end

section
/-! The drain: what the end of a flush mark, the closing of a link and the advance do, one rule for each (R126, R137,
R138, R143, R144), and that they give `State.closedAndAdvanced` and `State.markJudged`. -/

namespace Sys2Proof.Machine

/-! ### The end of a flush mark -/

/-- The flush mark goes, and a SNAP mark's freeze ends with completeness `c`: what `State.endMark` and
`State.completeMark` have in common. -/
def State.dropMark (s : State) (c : Completeness) : State :=
  match s.drain.mark with
  | none => s
  | some m =>
    let ended := { s with drain := { s.drain with mark := none } }
    match m.origin with
    | .flush => ended
    | .snap => ended.endFreeze c

theorem State.endMark_eq_dropMark (s : State) : s.endMark = s.dropMark .incomplete := rfl

theorem State.completeMark_eq_dropMark (s : State) : s.completeMark = s.dropMark .complete := rfl

theorem State.dropMark_of_none {s : State} (h : s.drain.mark = none) (c : Completeness) : s.dropMark c = s := by
  simp [State.dropMark, h]

theorem State.dropMark_flush {s : State} {m : FlushMark} (h : s.drain.mark = some m) (ho : m.origin = .flush)
    (c : Completeness) : s.dropMark c = { s with drain := { s.drain with mark := none } } := by
  simp [State.dropMark, h, ho]

theorem State.dropMark_snap {s : State} {m : FlushMark} (h : s.drain.mark = some m) (ho : m.origin = .snap)
    (c : Completeness) :
    s.dropMark c = ({ s with drain := { s.drain with mark := none } } : State).endFreeze c := by
  simp [State.dropMark, h, ho]

theorem State.dropMark_drain (s : State) (c : Completeness) :
    (s.dropMark c).drain = { s.drain with mark := none } := by
  unfold State.dropMark
  split
  · next h => rw [← h]
  · dsimp only
    split <;> simp

theorem State.dropMark_lastNotified (s : State) (c : Completeness) :
    (s.dropMark c).notices.lastNotified = s.notices.lastNotified := by
  unfold State.dropMark
  split
  · rfl
  · dsimp only
    split <;> simp

theorem State.dropMark_noticeSet {s : State} {n : Notice} (h : s.noticeSet n = true) (c : Completeness) :
    (s.dropMark c).noticeSet n = true := by
  unfold State.dropMark
  split
  · exact h
  · dsimp only
    split
    · exact h
    · exact State.noticeSet_setNotice h .snapDone

theorem State.dropMark_frozenWith {s : State} {m : FlushMark} (h : s.drain.mark = some m) (ho : m.origin = .snap)
    (c : Completeness) : State.frozenWith s (s.dropMark c) c := by
  rw [State.dropMark_snap h ho]
  exact ⟨rfl, State.setNotice_noticeSet _ .snapDone, rfl⟩

/-- Without a SNAP mark no freeze ends. -/
theorem State.dropMark_monitor {s : State} (h : ∀ m, s.drain.mark = some m → m.origin ≠ .snap) (c : Completeness) :
    (s.dropMark c).monitor = s.monitor ∧ (s.dropMark c).notices.completeness = s.notices.completeness := by
  cases hmark : s.drain.mark with
  | none => simp [State.dropMark_of_none hmark]
  | some m =>
    cases ho : m.origin with
    | flush => simp [State.dropMark_flush hmark ho]
    | snap => exact absurd ho (h m hmark)

/-! ### The closing of a link -/

/-- Link `i` of `s` has closed in `j`, and the drain has not yet advanced (R126, R138). -/
def State.linkClosed (s j : State) (i : Fin 8) (reason : CloseReason) : Prop :=
  j.drain.links = s.drain.links.set i { s.link i with state := .done, closeReason := some reason } ∧
  j.drain.state = s.drain.state ∧ j.drain.pointer = s.drain.pointer ∧ j.drain.current = none ∧
  ((s.link i).notify → j.noticeSet .linkDone ∧ j.notices.lastNotified = some i) ∧
  ((s.link i).notify = false → j.notices.lastNotified = s.notices.lastNotified)

theorem State.closeLink_drain (s : State) (i : Fin 8) (reason : CloseReason) :
    (s.closeLink i reason).drain = { s.drain with
      links := s.drain.links.set i { s.link i with state := .done, closeReason := some reason }
      current := none } := by
  unfold State.closeLink
  dsimp only
  split <;> rfl

theorem State.closeLink_completeness (s : State) (i : Fin 8) (reason : CloseReason) :
    (s.closeLink i reason).notices.completeness = s.notices.completeness := by
  unfold State.closeLink
  dsimp only
  split <;> rfl

theorem State.closeLink_linkClosed (s : State) (i : Fin 8) (reason : CloseReason) :
    State.linkClosed s (s.closeLink i reason) i reason := by
  unfold State.linkClosed
  rw [State.closeLink_drain]
  refine ⟨rfl, rfl, rfl, rfl, fun hnotify => ?_, fun hnotify => ?_⟩
  · rw [State.closeLink, if_pos hnotify]
    exact ⟨State.setNotice_noticeSet _ .linkDone, rfl⟩
  · rw [State.closeLink, if_neg (Bool.eq_false_iff.mp hnotify)]
    rfl

theorem State.linkClosed.dropMark {s j : State} {i : Fin 8} {reason : CloseReason}
    (h : State.linkClosed s j i reason) (c : Completeness) : State.linkClosed s (j.dropMark c) i reason := by
  obtain ⟨hlinks, hstate, hpointer, hcurrent, hnotify, hsilent⟩ := h
  unfold State.linkClosed
  rw [State.dropMark_drain, State.dropMark_lastNotified]
  exact ⟨hlinks, hstate, hpointer, hcurrent,
    fun hn => ⟨State.dropMark_noticeSet (hnotify hn).1 c, (hnotify hn).2⟩, hsilent⟩

/-! ### The advance -/

theorem State.endChain_noticeSet {s : State} {n : Notice} (h : s.noticeSet n = true) :
    s.endChain.noticeSet n = true :=
  State.noticeSet_setNotice (s := { s with drain := { s.drain with state := .ended } }) h .chainEnded

theorem State.starve_noticeSet {s : State} {n : Notice} (h : s.noticeSet n = true) : s.starve.noticeSet n = true :=
  State.noticeSet_setNotice (s := { s with drain := { s.drain with state := .starved } }) h .starved

theorem State.advance_ended {s : State} {i : Fin 8} (h : (s.link i).endOfChain = true) :
    s.advance i = s.endChain.dropMark .incomplete := by
  rw [State.advance, if_pos h, State.endMark_eq_dropMark]

theorem State.advance_ready {s : State} {i n : Fin 8} (h : (s.link i).endOfChain = false)
    (hn : (s.link i).next = n) (hrunning : s.drain.state = .running) (hready : (s.link n).state = .ready) :
    s.advance i = ({ s with drain := { s.drain with pointer := n } } : State).activateLink n := by
  subst hn
  rw [State.advance, if_neg (Bool.eq_false_iff.mp h), if_pos hrunning, if_pos hready]

theorem State.advance_starved {s : State} {i n : Fin 8} (h : (s.link i).endOfChain = false)
    (hn : (s.link i).next = n) (hrunning : s.drain.state = .running) (hready : (s.link n).state ≠ .ready) :
    s.advance i = ({ s with drain := { s.drain with pointer := n } } : State).starve.dropMark .incomplete := by
  subst hn
  rw [State.advance, if_neg (Bool.eq_false_iff.mp h), if_pos hrunning, if_neg hready, State.endMark_eq_dropMark]

theorem State.advance_halted {s : State} {i n : Fin 8} (h : (s.link i).endOfChain = false)
    (hn : (s.link i).next = n) (hrunning : s.drain.state ≠ .running) :
    s.advance i = { s with drain := { s.drain with pointer := n } } := by
  subst hn
  rw [State.advance, if_neg (Bool.eq_false_iff.mp h), if_neg hrunning]

theorem State.advance_drain_ended {s : State} {i : Fin 8} (h : (s.link i).endOfChain = true) :
    (s.advance i).drain = { s.drain with state := .ended, mark := none } := by
  rw [State.advance_ended h, State.dropMark_drain]
  rfl

theorem State.advance_drain_ready {s : State} {i n : Fin 8} (h : (s.link i).endOfChain = false)
    (hn : (s.link i).next = n) (hrunning : s.drain.state = .running) (hready : (s.link n).state = .ready) :
    (s.advance i).drain = { s.drain with
      pointer := n
      links := s.drain.links.set n { s.link n with state := .active }
      state := .running
      current := some n } := by
  rw [State.advance_ready h hn hrunning hready]
  rfl

theorem State.advance_drain_starved {s : State} {i n : Fin 8} (h : (s.link i).endOfChain = false)
    (hn : (s.link i).next = n) (hrunning : s.drain.state = .running) (hready : (s.link n).state ≠ .ready) :
    (s.advance i).drain = { s.drain with pointer := n, state := .starved, mark := none } := by
  rw [State.advance_starved h hn hrunning hready, State.dropMark_drain]
  rfl

theorem State.advance_drain_halted {s : State} {i n : Fin 8} (h : (s.link i).endOfChain = false)
    (hn : (s.link i).next = n) (hrunning : s.drain.state ≠ .running) :
    (s.advance i).drain = { s.drain with pointer := n } := by
  rw [State.advance_halted h hn hrunning]

/-- An advance leaves a set notice set. -/
theorem State.advance_noticeSet {s : State} {n : Notice} (h : s.noticeSet n = true) (i : Fin 8) :
    (s.advance i).noticeSet n = true := by
  rcases Bool.eq_false_or_eq_true (s.link i).endOfChain with hend | hend
  · rw [State.advance_ended hend]
    exact State.dropMark_noticeSet (State.endChain_noticeSet h) _
  · by_cases hrunning : s.drain.state = .running
    · by_cases hready : (s.link (s.link i).next).state = .ready
      · rw [State.advance_ready hend rfl hrunning hready]
        exact h
      · rw [State.advance_starved hend rfl hrunning hready]
        refine State.dropMark_noticeSet (State.starve_noticeSet ?_) _
        exact h
    · rw [State.advance_halted hend rfl hrunning]
      exact h

theorem State.advance_noticeSet_ended {s : State} {i : Fin 8} (h : (s.link i).endOfChain = true) :
    (s.advance i).noticeSet .chainEnded = true := by
  rw [State.advance_ended h]
  exact State.dropMark_noticeSet (State.setNotice_noticeSet _ .chainEnded) _

theorem State.advance_noticeSet_starved {s : State} {i n : Fin 8} (h : (s.link i).endOfChain = false)
    (hn : (s.link i).next = n) (hrunning : s.drain.state = .running) (hready : (s.link n).state ≠ .ready) :
    (s.advance i).noticeSet .starved = true := by
  rw [State.advance_starved h hn hrunning hready]
  exact State.dropMark_noticeSet (State.setNotice_noticeSet _ .starved) _

theorem State.advance_lastNotified (s : State) (i : Fin 8) :
    (s.advance i).notices.lastNotified = s.notices.lastNotified := by
  unfold State.advance
  split
  · simp
  · dsimp only
    split
    · split <;> simp
    · rfl

/-! ### A closing and the advance after it -/

theorem State.linkClosed.link_self {s j : State} {i : Fin 8} {reason : CloseReason}
    (h : State.linkClosed s j i reason) :
    j.link i = { s.link i with state := .done, closeReason := some reason } := by
  simp [h.1]

theorem State.linkClosed.link_other {s j : State} {i k : Fin 8} {reason : CloseReason}
    (h : State.linkClosed s j i reason) (hk : k ≠ i) : j.link k = s.link k := by
  simp [h.1, hk.symm]

/-- The link the advance points to is READY after the closing exactly when it was before and is another (R137). -/
theorem State.linkClosed.next_ready_iff {s j : State} {i : Fin 8} {reason : CloseReason}
    (h : State.linkClosed s j i reason) :
    (j.link (s.link i).next).state = .ready ↔ (s.link i).next ≠ i ∧ (s.link (s.link i).next).state = .ready := by
  by_cases hnext : (s.link i).next = i
  · rw [hnext, h.link_self]
    exact ⟨nofun, fun hne => absurd rfl hne.1⟩
  · rw [h.link_other hnext]
    exact ⟨fun hready => ⟨hnext, hready⟩, fun hready => hready.2⟩

theorem State.link_congr {s t : State} (h : t.drain.links = s.drain.links) (i : Fin 8) : t.link i = s.link i := by
  rw [State.link, State.link, h]

theorem State.link_of_drain {s : State} {d : Drain} (h : s.drain = d) (i : Fin 8) : s.link i = d.links.get i := by
  rw [State.link, h]

theorem State.linkClosed.closedAndAdvanced_ended {s j : State} {i : Fin 8} {reason : CloseReason}
    (h : State.linkClosed s j i reason) (hend : (s.link i).endOfChain = true) :
    (j.advance i).link i = { s.link i with state := .done, closeReason := some reason } ∧
      (j.advance i).drain.state = .ended ∧ (j.advance i).drain.current = none ∧
      (j.advance i).drain.pointer = s.drain.pointer ∧ (j.advance i).noticeSet .chainEnded ∧
      ∀ k, k ≠ i → (j.advance i).link k = s.link k := by
  have hend' : (j.link i).endOfChain = true := by rw [h.link_self]; exact hend
  have hd := State.advance_drain_ended hend'
  have hlinks : ∀ k, (j.advance i).link k = j.link k := State.link_congr (by rw [hd])
  have hset := State.advance_noticeSet_ended hend'
  have hother : ∀ k, k ≠ i → j.link k = s.link k := fun k => h.link_other
  have hself := h.link_self
  obtain ⟨_, _, hpointer, hcurrent, _⟩ := h
  exact ⟨(hlinks i).trans hself, by rw [hd], by rw [hd]; exact hcurrent, by rw [hd]; exact hpointer, hset,
    fun k hk => (hlinks k).trans (hother k hk)⟩

/-- Where the chain goes on: the advance to link `n`, in its three cases (R137). -/
theorem State.linkClosed.closedAndAdvanced_next {s j : State} {i n : Fin 8} {reason : CloseReason}
    (h : State.linkClosed s j i reason) (hend : (s.link i).endOfChain = false) (hn : (s.link i).next = n) :
    (j.advance i).link i = { s.link i with state := .done, closeReason := some reason } ∧
      (j.advance i).drain.pointer = n ∧
      (s.drain.state = .running → n ≠ i → (s.link n).state = .ready →
        (j.advance i).drain.state = .running ∧ (j.advance i).drain.current = some n ∧
          (j.advance i).link n = { s.link n with state := .active } ∧
          ∀ k, k ≠ i → k ≠ n → (j.advance i).link k = s.link k) ∧
      (s.drain.state = .running → (n = i ∨ (s.link n).state ≠ .ready) →
        (j.advance i).drain.state = .starved ∧ (j.advance i).drain.current = none ∧
          (j.advance i).noticeSet .starved ∧ ∀ k, k ≠ i → (j.advance i).link k = s.link k) ∧
      (s.drain.state ≠ .running →
        (j.advance i).drain.state = s.drain.state ∧ (j.advance i).drain.current = none ∧
          ∀ k, k ≠ i → (j.advance i).link k = s.link k) := by
  have hself := h.link_self
  have hother : ∀ k, k ≠ i → j.link k = s.link k := fun k => h.link_other
  have hnext := h.next_ready_iff
  rw [hn] at hnext
  have hend' : (j.link i).endOfChain = false := by rw [hself]; exact hend
  have hn' : (j.link i).next = n := by rw [hself]; exact hn
  obtain ⟨_, hstate, _, hcurrent, _⟩ := h
  by_cases hrunning : s.drain.state = .running
  · have hrunning' := hstate.trans hrunning
    by_cases hready : n ≠ i ∧ (s.link n).state = .ready
    · have hd := State.advance_drain_ready hend' hn' hrunning' (hnext.mpr hready)
      have hlinks : ∀ k, (j.advance i).link k = if n = k then { j.link n with state := .active } else j.link k := by
        intro k
        rw [State.link_of_drain hd, vector_get_set]
        rfl
      refine ⟨?_, by rw [hd], fun _ _ _ => ⟨by rw [hd], by rw [hd], ?_, fun k hk hk' => ?_⟩, fun _ hc => ?_,
        fun hc => absurd hrunning hc⟩
      · rw [hlinks, if_neg hready.1, hself]
      · rw [hlinks, if_pos rfl, hother n hready.1]
      · rw [hlinks, if_neg (Ne.symm hk'), hother k hk]
      · exact (hc.elim hready.1 fun hc => hc hready.2).elim
    · have hbusy : (j.link n).state ≠ .ready := fun hc => hready (hnext.mp hc)
      have hd := State.advance_drain_starved hend' hn' hrunning' hbusy
      have hlinks : ∀ k, (j.advance i).link k = j.link k := State.link_congr (by rw [hd])
      exact ⟨(hlinks i).trans hself, by rw [hd], fun _ hne hr => (hready ⟨hne, hr⟩).elim,
        fun _ _ => ⟨by rw [hd], by rw [hd]; exact hcurrent,
          State.advance_noticeSet_starved hend' hn' hrunning' hbusy, fun k hk => (hlinks k).trans (hother k hk)⟩,
        fun hc => absurd hrunning hc⟩
  · have hd := State.advance_drain_halted hend' hn' (fun hc => hrunning (hstate.symm.trans hc))
    have hlinks : ∀ k, (j.advance i).link k = j.link k := State.link_congr (by rw [hd])
    exact ⟨(hlinks i).trans hself, by rw [hd], fun hc => absurd hc hrunning, fun hc => absurd hc hrunning,
      fun _ => ⟨by rw [hd]; exact hstate, by rw [hd]; exact hcurrent, fun k hk => (hlinks k).trans (hother k hk)⟩⟩

/-- A closing and the advance after it give `State.closedAndAdvanced`. -/
theorem State.linkClosed.closedAndAdvanced {s j : State} {i : Fin 8} {reason : CloseReason}
    (h : State.linkClosed s j i reason) : State.closedAndAdvanced s (j.advance i) i reason := by
  have hnotices : ((s.link i).notify = true → (j.advance i).noticeSet .linkDone ∧
        (j.advance i).notices.lastNotified = some i) ∧
      ((s.link i).notify = false → (j.advance i).notices.lastNotified = s.notices.lastNotified) := by
    obtain ⟨_, _, _, _, hnotify, hsilent⟩ := h
    rw [State.advance_lastNotified]
    exact ⟨fun hn => ⟨State.advance_noticeSet (hnotify hn).1 i, (hnotify hn).2⟩, hsilent⟩
  rcases Bool.eq_false_or_eq_true (s.link i).endOfChain with hend | hend
  · obtain ⟨hself, hadvanced⟩ := h.closedAndAdvanced_ended hend
    exact ⟨hself, hnotices.1, hnotices.2, fun _ => hadvanced, fun hc => nomatch hend.symm.trans hc⟩
  · obtain ⟨hself, hadvanced⟩ := h.closedAndAdvanced_next hend rfl
    exact ⟨hself, hnotices.1, hnotices.2, fun hc => (nomatch hend.symm.trans hc), fun _ => hadvanced⟩

/-! ### What becomes of the flush mark -/

/-- The advance past link `i` ends or starves the drain (R137, R144). -/
def State.advanceLeaves (s : State) (i : Fin 8) : Prop :=
  (s.link i).endOfChain = true ∨
    s.drain.state = .running ∧ (s.link (s.link i).next).state ≠ .ready

/-- An advance that ends or starves the drain ends a mark without completion. -/
theorem State.advance_leaves {s : State} {i : Fin 8} (h : s.advanceLeaves i) :
    ∃ u : State, s.advance i = u.dropMark .incomplete ∧ u.drain.mark = s.drain.mark ∧ u.monitor = s.monitor ∧
      u.notices.completeness = s.notices.completeness := by
  rcases Bool.eq_false_or_eq_true (s.link i).endOfChain with hend | hend
  · exact ⟨_, State.advance_ended hend, rfl, rfl, rfl⟩
  · rcases h with hc | ⟨hrunning, hready⟩
    · exact (nomatch hend.symm.trans hc)
    · exact ⟨_, State.advance_starved hend rfl hrunning hready, rfl, rfl, rfl⟩

/-- Any other advance leaves the mark and the freeze as they are. -/
theorem State.advance_stays {s : State} {i : Fin 8} (h : ¬s.advanceLeaves i) :
    (s.advance i).drain.mark = s.drain.mark ∧ (s.advance i).monitor = s.monitor ∧
      (s.advance i).notices = s.notices := by
  simp only [State.advanceLeaves, not_or, Bool.not_eq_true, not_and, not_not] at h
  obtain ⟨hend, hready⟩ := h
  by_cases hrunning : s.drain.state = .running
  · rw [State.advance_ready hend rfl hrunning (hready hrunning)]
    exact ⟨rfl, rfl, rfl⟩
  · rw [State.advance_halted hend rfl hrunning]
    exact ⟨rfl, rfl, rfl⟩

theorem State.linkClosed.advanceLeaves_iff {s j : State} {i : Fin 8} {reason : CloseReason}
    (h : State.linkClosed s j i reason) :
    j.advanceLeaves i ↔ (s.link i).endOfChain = true ∨
      s.drain.state = .running ∧ ((s.link i).next = i ∨ (s.link (s.link i).next).state ≠ .ready) := by
  have hnext := h.next_ready_iff
  have hself := h.link_self
  obtain ⟨_, hstate, _⟩ := h
  have hends : (j.link i).endOfChain = (s.link i).endOfChain := by rw [hself]
  have hn : (j.link i).next = (s.link i).next := by rw [hself]
  rw [State.advanceLeaves, hends, hn, hstate, Ne, hnext, not_and_or, Ne, not_not]

/-- A closing with no completion, and the advance: the mark stands or ends without completion. -/
theorem State.linkClosed.markJudged_counting {s j : State} {i : Fin 8} {reason : CloseReason}
    (h : State.linkClosed s j i reason) (hmonitor : j.monitor = s.monitor)
    (hcompleteness : j.notices.completeness = s.notices.completeness) {mark : Option FlushMark}
    (hmark : j.drain.mark = mark) (hcounting : ∀ m, mark = some m → m.remaining ≠ 0) :
    State.markJudged s (j.advance i) i mark := by
  unfold State.markJudged
  dsimp only
  rw [← h.advanceLeaves_iff]
  by_cases hleaves : j.advanceLeaves i
  · obtain ⟨u, hu, humark, humonitor, hucompleteness⟩ := State.advance_leaves hleaves
    have hnone : (j.advance i).drain.mark = none := by rw [hu, State.dropMark_drain]
    refine ⟨fun _ => hnone, fun m hm => ⟨fun _ => hnone, fun _ hc => absurd hleaves hc,
      fun _ hzero => absurd hzero (hcounting m hm), fun ho _ _ => ?_⟩, fun hflush => ?_⟩
    · have hfrozen := State.dropMark_frozenWith (humark.trans (hmark.trans hm)) ho .incomplete
      rw [← hu] at hfrozen
      unfold State.frozenWith at *
      rwa [humonitor, hmonitor] at hfrozen
    · have hkept := State.dropMark_monitor (s := u)
        (fun m hm ho => (hflush m (hmark.symm.trans (humark.symm.trans hm)) ho).2 hleaves) .incomplete
      rw [← hu, humonitor, hucompleteness, hmonitor, hcompleteness] at hkept
      exact hkept
  · obtain ⟨hstands, hmonitor', hnotices⟩ := State.advance_stays hleaves
    refine ⟨fun hm => hstands.trans (hmark.trans hm), fun m hm => ⟨fun hc => ?_,
      fun _ _ => hstands.trans (hmark.trans hm),
      fun _ hzero => absurd hzero (hcounting m hm), fun _ _ hc => absurd hc hleaves⟩,
      fun _ => ⟨hmonitor'.trans hmonitor, by rw [hnotices, hcompleteness]⟩⟩
    exact (hc.elim (hcounting m hm) hleaves).elim

/-- A mark at 0 completes before the advance, which then finds none. -/
theorem State.markJudged_due {s j : State} (i : Fin 8) (hmonitor : j.monitor = s.monitor)
    (hcompleteness : j.notices.completeness = s.notices.completeness) {m : FlushMark}
    (hmark : j.drain.mark = some m) (hdue : m.remaining = 0) :
    State.markJudged s ((j.dropMark .complete).advance i) i (some m) := by
  have hnone : (j.dropMark .complete).drain.mark = none := by rw [State.dropMark_drain]
  have hkept : ((j.dropMark .complete).advance i).drain.mark = none ∧
      ((j.dropMark .complete).advance i).monitor = (j.dropMark .complete).monitor ∧
      ((j.dropMark .complete).advance i).notices.completeness = (j.dropMark .complete).notices.completeness := by
    by_cases hleaves : (j.dropMark .complete).advanceLeaves i
    · obtain ⟨u, hu, humark, humonitor, hucompleteness⟩ := State.advance_leaves hleaves
      rw [hu, State.dropMark_of_none (humark.trans hnone), humark]
      exact ⟨hnone, humonitor, hucompleteness⟩
    · obtain ⟨hstands, hmonitor', hnotices⟩ := State.advance_stays hleaves
      exact ⟨hstands.trans hnone, hmonitor', by rw [hnotices]⟩
  obtain ⟨hgone, hmonitor', hcompleteness'⟩ := hkept
  refine ⟨nofun, fun m' hm' => ?_, fun hflush => ?_⟩
  · cases hm'
    refine ⟨fun _ => hgone, fun hc => absurd hdue hc, fun ho _ => ?_, fun _ hc => absurd hdue hc⟩
    obtain ⟨hfrozen, hset, hcomplete⟩ := State.dropMark_frozenWith hmark ho .complete
    exact ⟨by rw [hmonitor', hfrozen, hmonitor], State.advance_noticeSet hset i, hcompleteness'.trans hcomplete⟩
  · obtain ⟨hstays, hstays'⟩ := State.dropMark_monitor (s := j)
      (fun m' hm' ho => by
        rw [hmark] at hm'
        exact (hflush m' hm' ho).1 (Option.some.inj hm' ▸ hdue)) .complete
    exact ⟨hmonitor'.trans (hstays.trans hmonitor), hcompleteness'.trans (hstays'.trans hcompleteness)⟩

/-! ### The closures -/

theorem State.flushDue_iff (s : State) : s.flushDue = true ↔ ∃ m, s.drain.mark = some m ∧ m.remaining = 0 := by
  unfold State.flushDue
  cases s.drain.mark <;> simp

/-- Link `i` closes with a reason, a mark at 0 completes with it, and the drain advances (R136, R137, R143). -/
def State.closeAdvance (s : State) (i : Fin 8) (reason : CloseReason) : State :=
  (if s.flushDue then (s.closeLink i reason).completeMark else s.closeLink i reason).advance i

theorem State.closeFull_eq (s : State) (i : Fin 8) : s.closeFull i = s.closeAdvance i .full := rfl

theorem State.completeFlush_filled {s : State} {i : Fin 8} (h : s.drain.current = some i)
    (hfill : 0 < (s.link i).fill) (hdue : s.flushDue = true) : s.completeFlush = s.closeAdvance i .flush := by
  simp only [State.completeFlush, h]
  rw [if_pos hfill, State.closeAdvance, if_pos hdue]

theorem State.completeFlush_empty {s : State} {i : Fin 8} (h : s.drain.current = some i)
    (hfill : (s.link i).fill = 0) : s.completeFlush = s.dropMark .complete := by
  simp only [State.completeFlush, h]
  rw [if_neg (by omega), State.completeMark_eq_dropMark]

theorem State.closeAdvance_closedAndAdvanced (s : State) (i : Fin 8) (reason : CloseReason) :
    State.closedAndAdvanced s (s.closeAdvance i reason) i reason := by
  have hclosed := s.closeLink_linkClosed i reason
  unfold State.closeAdvance
  split
  · rw [State.completeMark_eq_dropMark]
    exact (hclosed.dropMark .complete).closedAndAdvanced
  · exact hclosed.closedAndAdvanced

theorem State.closeAdvance_markJudged (s : State) (i : Fin 8) (reason : CloseReason) :
    State.markJudged s (s.closeAdvance i reason) i s.drain.mark := by
  have hmark : (s.closeLink i reason).drain.mark = s.drain.mark := by rw [State.closeLink_drain]
  have hmonitor : (s.closeLink i reason).monitor = s.monitor := by simp
  have hcompleteness := s.closeLink_completeness i reason
  unfold State.closeAdvance
  by_cases hdue : s.flushDue = true
  · obtain ⟨m, hm, hzero⟩ := s.flushDue_iff.mp hdue
    rw [if_pos hdue, State.completeMark_eq_dropMark, hm]
    exact State.markJudged_due i hmonitor hcompleteness (hmark.trans hm) hzero
  · rw [if_neg hdue]
    exact (s.closeLink_linkClosed i reason).markJudged_counting hmonitor hcompleteness hmark
      fun m hm hzero => hdue (s.flushDue_iff.mpr ⟨m, hm, hzero⟩)

/-- What the closing and the advance leave of the drain's other parts. -/
theorem State.advance_inFlight (s : State) (i : Fin 8) :
    (s.advance i).drain.recordInFlight = s.drain.recordInFlight ∧
      (s.advance i).drain.padInFlight = s.drain.padInFlight ∧
      (s.advance i).drain.abortPending = s.drain.abortPending := by
  rcases Bool.eq_false_or_eq_true (s.link i).endOfChain with hend | hend
  · rw [State.advance_drain_ended hend]
    exact ⟨rfl, rfl, rfl⟩
  · by_cases hrunning : s.drain.state = .running
    · by_cases hready : (s.link (s.link i).next).state = .ready
      · rw [State.advance_drain_ready hend rfl hrunning hready]
        exact ⟨rfl, rfl, rfl⟩
      · rw [State.advance_drain_starved hend rfl hrunning hready]
        exact ⟨rfl, rfl, rfl⟩
    · rw [State.advance_drain_halted hend rfl hrunning]
      exact ⟨rfl, rfl, rfl⟩

theorem State.closeAdvance_inFlight (s : State) (i : Fin 8) (reason : CloseReason) :
    (s.closeAdvance i reason).drain.recordInFlight = s.drain.recordInFlight ∧
      (s.closeAdvance i reason).drain.padInFlight = s.drain.padInFlight ∧
      (s.closeAdvance i reason).drain.abortPending = s.drain.abortPending := by
  unfold State.closeAdvance
  split
  · have hadvance := State.advance_inFlight (s.closeLink i reason).completeMark i
    rwa [State.completeMark_eq_dropMark, State.dropMark_drain, State.closeLink_drain] at hadvance
  · have hadvance := State.advance_inFlight (s.closeLink i reason) i
    rwa [State.closeLink_drain] at hadvance

/-- An abort settled after the closing of its link (R140, R141): the drain after it. -/
theorem State.settleAbort_drain_ended {s : State} {i : Fin 8} (h : (s.link i).endOfChain = true) :
    (s.settleAbort i).drain = { s.drain with abortPending := false, state := .ended } := by
  rw [State.settleAbort, if_pos h]
  rfl

theorem State.settleAbort_drain_next {s : State} {i : Fin 8} (h : (s.link i).endOfChain = false) :
    (s.settleAbort i).drain = { s.drain with abortPending := false, pointer := (s.link i).next } := by
  rw [State.settleAbort, if_neg (Bool.eq_false_iff.mp h)]

/-- Link `i` of `s` has closed in `t` under an abort, which is no longer pending (R140, R141). -/
def State.abortedLink (s t : State) (i : Fin 8) (reason : CloseReason) : Prop :=
  t.drain.abortPending = false ∧ t.drain.current = none ∧
  t.link i = { s.link i with state := .done, closeReason := some reason } ∧
  (∀ j, j ≠ i → t.link j = s.link j) ∧
  ((s.link i).endOfChain = true → t.drain.state = .ended ∧ t.drain.pointer = s.drain.pointer) ∧
  ((s.link i).endOfChain = false → t.drain.state = s.drain.state ∧ t.drain.pointer = (s.link i).next)

theorem State.settleAbort_abortedLink (s : State) (i : Fin 8) (reason : CloseReason) :
    State.abortedLink s ((s.closeLink i reason).settleAbort i) i reason := by
  have hclosed := s.closeLink_linkClosed i reason
  have hself := hclosed.link_self
  have hother : ∀ k, k ≠ i → (s.closeLink i reason).link k = s.link k := fun k => hclosed.link_other
  obtain ⟨_, hstate, hpointer, hcurrent, _⟩ := hclosed
  have hends : ((s.closeLink i reason).link i).endOfChain = (s.link i).endOfChain := by rw [hself]
  have hnext : ((s.closeLink i reason).link i).next = (s.link i).next := by rw [hself]
  rcases Bool.eq_false_or_eq_true (s.link i).endOfChain with hend | hend
  · have hd := State.settleAbort_drain_ended (hends.trans hend)
    have hlinks : ∀ k, ((s.closeLink i reason).settleAbort i).link k = (s.closeLink i reason).link k :=
      State.link_congr (by rw [hd])
    exact ⟨by rw [hd], by rw [hd]; exact hcurrent, (hlinks i).trans hself, fun k hk => (hlinks k).trans (hother k hk),
      fun _ => ⟨by rw [hd], by rw [hd]; exact hpointer⟩, fun hc => (nomatch hend.symm.trans hc)⟩
  · have hd := State.settleAbort_drain_next (hends.trans hend)
    have hlinks : ∀ k, ((s.closeLink i reason).settleAbort i).link k = (s.closeLink i reason).link k :=
      State.link_congr (by rw [hd])
    exact ⟨by rw [hd], by rw [hd]; exact hcurrent, (hlinks i).trans hself, fun k hk => (hlinks k).trans (hother k hk),
      fun hc => (nomatch hend.symm.trans hc), fun _ => ⟨by rw [hd]; exact hstate, by rw [hd]; exact hnext⟩⟩

theorem State.settleAbort_inFlight (s : State) (i : Fin 8) (reason : CloseReason) :
    ((s.closeLink i reason).settleAbort i).drain.recordInFlight = s.drain.recordInFlight ∧
      ((s.closeLink i reason).settleAbort i).drain.padInFlight = s.drain.padInFlight ∧
      ((s.closeLink i reason).settleAbort i).drain.mark = s.drain.mark := by
  rcases Bool.eq_false_or_eq_true ((s.closeLink i reason).link i).endOfChain with hend | hend
  · rw [State.settleAbort_drain_ended hend, State.closeLink_drain]
    exact ⟨rfl, rfl, rfl⟩
  · rw [State.settleAbort_drain_next hend, State.closeLink_drain]
    exact ⟨rfl, rfl, rfl⟩

theorem State.carryOutAbort_of_current {s : State} {i : Fin 8} (h : s.drain.current = some i) :
    s.carryOutAbort = (s.closeLink i .abort).settleAbort i := by
  simp only [State.carryOutAbort, h]

end Sys2Proof.Machine
end

section
/-! The freeze and the flush mark (R141, R144, R149, R157, R158): that every command keeps `State.freezeSound`. -/

namespace Sys2Proof.Machine

/-- The two states agree in the monitor state, the mark and the drain's state. -/
def State.SameFreeze (s t : State) : Prop :=
  t.monitor.state = s.monitor.state ∧ t.drain.mark = s.drain.mark ∧ t.drain.state = s.drain.state ∧
    t.drain.abortPending = s.drain.abortPending

/-- What a command keeps of the freeze. -/
def State.FreezeKept (s t : State) : Prop := s.freezeSound → t.freezeSound

theorem State.SameFreeze.refl (s : State) : s.SameFreeze s := ⟨rfl, rfl, rfl, rfl⟩

theorem State.SameFreeze.kept {s t : State} (h : s.SameFreeze t) : s.FreezeKept t := by
  obtain ⟨hmonitor, hmark, hstate, habort⟩ := h
  intro hs
  unfold State.freezeSound at *
  rwa [hmonitor, hmark, hstate, habort]

theorem State.FreezeKept.refl (s : State) : s.FreezeKept s := id

theorem State.FreezeKept.trans {s t u : State} (h : s.FreezeKept t) (h' : t.FreezeKept u) : s.FreezeKept u :=
  h' ∘ h

theorem State.arbitrate_sameFreeze (s : State) : s.SameFreeze s.arbitrate := by
  simp [State.SameFreeze]

theorem State.releasePort_sameFreeze (s : State) : s.SameFreeze s.releasePort := by
  simp [State.SameFreeze]

theorem Answers.freezeKept {o : Host.Outcome State Fault Refusal} {s : State} (h : Answers o s.SameFreeze) :
    Answers o s.FreezeKept := by
  obtain ⟨t, ht, hsame⟩ := h
  exact ⟨t, ht, hsame.kept⟩

/-! ### The parts of `State.freezeSound` -/

/-- FREEZING exactly while a SNAP mark is present (R149). -/
def State.freezeMarked (s : State) : Prop :=
  s.monitor.state = .freezing ↔ ∃ m, s.drain.mark = some m ∧ m.origin = .snap

/-- The end of a mark leaves no freeze behind. -/
theorem State.dropMark_freezeSound {s : State} (h : s.freezeMarked)
    (habort : s.drain.abortPending = true → s.drain.state = .stopped) {c : Completeness} :
    (s.dropMark c).freezeSound := by
  have hdrain := s.dropMark_drain c
  have hstate : (s.dropMark c).monitor.state ≠ .freezing := by
    cases hmark : s.drain.mark with
    | none =>
      rw [State.dropMark_of_none hmark]
      intro hc
      obtain ⟨m, hm, _⟩ := h.mp hc
      exact (nomatch hmark.symm.trans hm)
    | some m =>
      cases ho : m.origin with
      | flush =>
        rw [State.dropMark_flush hmark ho]
        intro hc
        obtain ⟨m', hm', ho'⟩ := h.mp hc
        cases Option.some.inj (hmark.symm.trans hm')
        exact (nomatch ho.symm.trans ho')
      | snap =>
        rw [State.dropMark_snap hmark ho]
        exact nofun
  refine ⟨⟨fun hc => absurd hc hstate, fun ⟨m, hm, _⟩ => ?_⟩, fun hc => ?_, fun hc => ?_⟩
  · rw [hdrain] at hm
    exact (nomatch hm)
  · rw [hdrain] at hc
    exact (nomatch hc)
  · rw [hdrain] at hc ⊢
    exact habort hc

/-- Where no mark is present nothing but the state of the monitor matters. -/
theorem State.freezeSound_of_noMark {s : State} (hmonitor : s.monitor.state ≠ .freezing)
    (hmark : s.drain.mark = none) (habort : s.drain.abortPending = true → s.drain.state = .stopped) :
    s.freezeSound :=
  ⟨⟨fun hc => absurd hc hmonitor, fun ⟨_, hm, _⟩ => nomatch hmark.symm.trans hm⟩,
    fun hc => by simp [hmark] at hc, habort⟩

theorem State.freezeSound.not_freezing {s : State} (hs : s.freezeSound) (hmark : s.drain.mark = none) :
    s.monitor.state ≠ .freezing := by
  intro hc
  obtain ⟨m, hm, _⟩ := hs.1.mp hc
  exact (nomatch hmark.symm.trans hm)

theorem State.freezeSound.mark_none {s : State} (hs : s.freezeSound) (h : s.drain.state ≠ .running) :
    s.drain.mark = none := by
  cases hmark : s.drain.mark with
  | none => rfl
  | some m => exact absurd (hs.2.1 (by simp [hmark])) h

theorem State.freezeSound.abort_none {s : State} (hs : s.freezeSound) (h : s.drain.state ≠ .stopped) :
    s.drain.abortPending = false := by
  cases habort : s.drain.abortPending with
  | false => rfl
  | true => exact absurd (hs.2.2 habort) h

/-- The drain starts or goes on RUNNING with the mark it has. -/
theorem State.freezeSound_of_running {s t : State} (hs : s.freezeSound)
    (hmonitor : t.monitor.state = s.monitor.state) (hmark : t.drain.mark = s.drain.mark)
    (hrunning : t.drain.state = .running) (habort : t.drain.abortPending = false) : t.freezeSound := by
  refine ⟨?_, fun _ => hrunning, fun hc => (nomatch habort.symm.trans hc)⟩
  rw [hmonitor, hmark]
  exact hs.1

/-- A closing with the advance after it keeps the freeze in step with the mark (R157, R158). -/
theorem State.freezeSound_of_closed {s t : State} {i : Fin 8} {reason : CloseReason} (hs : s.freezeSound)
    (hclosed : State.closedAndAdvanced s t i reason) (hjudged : State.markJudged s t i s.drain.mark)
    (habort : t.drain.abortPending = false) : t.freezeSound := by
  obtain ⟨hnone, hsome, hkept⟩ := hjudged
  obtain ⟨_, _, _, hended, hnext⟩ := hclosed
  have habort' : t.drain.abortPending = true → t.drain.state = .stopped := fun hc => (nomatch habort.symm.trans hc)
  cases hmark : s.drain.mark with
  | none =>
    obtain ⟨hmonitor, _⟩ := hkept fun m hm => (nomatch hmark.symm.trans hm)
    exact State.freezeSound_of_noMark (by rw [hmonitor]; exact hs.not_freezing hmark) (hnone hmark) habort'
  | some m =>
    obtain ⟨hgone, hstays, hcomplete, hincomplete⟩ := hsome m hmark
    have hrunning := hs.2.1 (by simp [hmark])
    by_cases hends : m.remaining = 0 ∨ ((s.link i).endOfChain = true ∨
        s.drain.state = .running ∧ ((s.link i).next = i ∨ (s.link (s.link i).next).state ≠ .ready))
    · refine State.freezeSound_of_noMark ?_ (hgone hends) habort'
      cases ho : m.origin with
      | flush =>
        obtain ⟨hmonitor, _⟩ := hkept fun m' hm' ho' => by
          cases Option.some.inj (hmark.symm.trans hm')
          exact (nomatch ho.symm.trans ho')
        rw [hmonitor]
        intro hc
        obtain ⟨m', hm', ho'⟩ := hs.1.mp hc
        cases Option.some.inj (hmark.symm.trans hm')
        exact (nomatch ho.symm.trans ho')
      | snap =>
        by_cases hzero : m.remaining = 0
        · rw [(hcomplete ho hzero).1]
          exact nofun
        · rw [(hincomplete ho hzero (hends.resolve_left hzero)).1]
          exact nofun
    · simp only [not_or] at hends
      obtain ⟨hcounting, hend, hstarves⟩ := hends
      have hleaves : ¬((s.link i).endOfChain = true ∨
          s.drain.state = .running ∧ ((s.link i).next = i ∨ (s.link (s.link i).next).state ≠ .ready)) :=
        fun hc => hc.elim hend hstarves
      obtain ⟨hmonitor, _⟩ := hkept fun m' hm' _ => by
        cases Option.some.inj (hmark.symm.trans hm')
        exact ⟨hcounting, hleaves⟩
      simp only [hrunning, true_and, not_or, not_not] at hstarves
      obtain ⟨_, hruns, _⟩ := hnext (Bool.eq_false_iff.mpr hend)
      obtain ⟨hrunning', _⟩ := hruns hrunning hstarves.1 hstarves.2
      refine State.freezeSound_of_running hs (by rw [hmonitor]) ?_ hrunning' habort
      exact (hstays hcounting hleaves).trans hmark.symm

theorem State.closeAdvance_freezeSound {s : State} (i : Fin 8) (reason : CloseReason) (hs : s.freezeSound)
    (habort : s.drain.abortPending = false) : (s.closeAdvance i reason).freezeSound :=
  State.freezeSound_of_closed hs (s.closeAdvance_closedAndAdvanced i reason) (s.closeAdvance_markJudged i reason)
    ((s.closeAdvance_inFlight i reason).2.2.trans habort)

/-- A flush whose mark is at 0 completes. -/
theorem State.completeFlush_freezeSound {s : State} (hs : s.freezeSound) (hdue : s.flushDue = true)
    (habort : s.drain.abortPending = false) : s.completeFlush.freezeSound := by
  have hdropped : s.completeMark.freezeSound := State.dropMark_freezeSound hs.1 hs.2.2
  cases hcurrent : s.drain.current with
  | none => simpa only [State.completeFlush, hcurrent] using hdropped
  | some i =>
    rcases Nat.eq_zero_or_pos (s.link i).fill with hfill | hfill
    · rw [State.completeFlush_empty hcurrent hfill]
      exact hdropped
    · rw [State.completeFlush_filled hcurrent hfill hdue]
      exact State.closeAdvance_freezeSound i .flush hs habort

/-- A settled abort leaves a drain without a mark and with no abort pending. -/
theorem State.settleAbort_freezeSound {s : State} (i : Fin 8) (reason : CloseReason) (hs : s.freezeSound)
    (hmark : s.drain.mark = none) : ((s.closeLink i reason).settleAbort i).freezeSound := by
  obtain ⟨_, _, hmark'⟩ := s.settleAbort_inFlight i reason
  obtain ⟨habort, _⟩ := s.settleAbort_abortedLink i reason
  refine State.freezeSound_of_noMark ?_ (hmark'.trans hmark) fun hc => (nomatch habort.symm.trans hc)
  have hmonitor : ((s.closeLink i reason).settleAbort i).monitor = s.monitor := by simp
  rw [hmonitor]
  exact hs.not_freezing hmark

theorem State.carryOutAbort_freezeSound {s : State} (hs : s.freezeSound) (hmark : s.drain.mark = none) :
    s.carryOutAbort.freezeSound := by
  cases hcurrent : s.drain.current with
  | none => simpa only [State.carryOutAbort, hcurrent] using hs
  | some i =>
    rw [State.carryOutAbort_of_current hcurrent]
    exact State.settleAbort_freezeSound i .abort hs hmark

/-- A pending abort means a drain STOPPED, and so without a mark (R141, R144). -/
theorem State.freezeSound.mark_none_of_abort {s : State} (hs : s.freezeSound) (h : s.drain.abortPending = true) :
    s.drain.mark = none :=
  hs.mark_none (by rw [hs.2.2 h]; exact nofun)

/-! ### The drain's commands -/

theorem State.recordWritten_drain (s : State) (i : Fin 8) :
    (s.recordWritten i).drain = { s.drain with
      links := s.drain.links.set i { s.link i with fill := (s.link i).fill + 1 }
      recordInFlight := none
      mark := s.drain.mark.map fun (m : FlushMark) => { m with remaining := m.remaining - 1 } } := by
  rw [State.recordWritten_eq]
  simp [State.recordDone]

theorem State.recordWritten_freezeKept (s : State) (i : Fin 8) : s.FreezeKept (s.recordWritten i) := by
  intro ⟨hmarked, hrunning, habort⟩
  have hmonitor : (s.recordWritten i).monitor = s.monitor := by simp
  unfold State.freezeSound
  rw [State.recordWritten_drain, hmonitor]
  refine ⟨?_, by simpa using hrunning, habort⟩
  rw [hmarked]
  cases s.drain.mark <;> simp

theorem State.driveWord_sameFreeze (s : State) (k : Nat) : s.SameFreeze (s.driveWord k) := by
  unfold State.driveWord
  split <;> exact .refl s

theorem State.drivePad_sameFreeze (s : State) (k : Nat) : s.SameFreeze (s.drivePad k) := by
  unfold State.drivePad
  split <;> exact .refl s

theorem State.judgeClosure_freezeKept (s : State) (i : Fin 8) : s.FreezeKept (s.judgeClosure i) := by
  intro hs
  have hreleased : ∀ {u : State}, u.freezeSound → u.releasePort.freezeSound :=
    fun h => (State.releasePort_sameFreeze _).kept h
  unfold State.judgeClosure
  split
  · next habort => exact hreleased (State.carryOutAbort_freezeSound hs (hs.mark_none_of_abort habort))
  · next habort =>
    rw [Bool.not_eq_true] at habort
    split
    · split
      · next hdue => exact hreleased (State.completeFlush_freezeSound hs hdue habort)
      · split
        · exact hreleased hs
        · exact (s.driveWord_sameFreeze 0).kept hs
    · split
      · exact hreleased (State.closeAdvance_freezeSound i .full hs habort)
      · exact (s.drivePad_sameFreeze 0).kept hs

theorem State.padsWritten_freezeKept (s : State) (i : Fin 8) : s.FreezeKept (s.padsWritten i) := by
  intro hs
  refine (State.releasePort_sameFreeze _).kept ?_
  dsimp only
  split
  · next habort => exact State.settleAbort_freezeSound i .full hs (hs.mark_none_of_abort habort)
  · next habort => exact State.closeAdvance_freezeSound i .full hs (Bool.eq_false_iff.mpr habort)

/-- The port is freed where a reset has abandoned the write (R44). -/
theorem execAbandoned_freezeKept {s : State} {o : Host.Outcome State Fault Refusal} (h : Answers o s.FreezeKept) :
    Answers (if s.abandonedWrite then .next s.releasePort else o) s.FreezeKept := by
  split
  · exact .next s.releasePort_sameFreeze.kept
  · exact h

theorem execDrainGrant_freezeKept (s : State) : Answers (execDrainGrant s) s.FreezeKept := by
  unfold execDrainGrant
  split
  · exact .next fun hs => (State.driveWord_sameFreeze _ 0).kept hs
  · exact .next (.refl s)

theorem execDrainWriteCompletion_freezeKept (s : State) : Answers (execDrainWriteCompletion s) s.FreezeKept := by
  refine execAbandoned_freezeKept ?_
  split
  · exact .next (.refl s)
  · split
    · exact .next (s.driveWord_sameFreeze _).kept
    · exact .next (.refl s)

theorem execRecordWriteCompletion_freezeKept (s : State) : Answers (execRecordWriteCompletion s) s.FreezeKept := by
  refine execAbandoned_freezeKept ?_
  split
  · next k i _ _ =>
    split
    · exact .next ((s.recordWritten_freezeKept i).trans (State.judgeClosure_freezeKept _ i))
    · exact .next (.refl s)
  · exact .next (.refl s)

theorem execPadWriteCompletion_freezeKept (s : State) : Answers (execPadWriteCompletion s) s.FreezeKept := by
  refine execAbandoned_freezeKept ?_
  split
  · next k i _ _ =>
    split
    · split
      · exact .next (s.drivePad_sameFreeze _).kept
      · exact .next (s.padsWritten_freezeKept i)
    · exact .next (.refl s)
  · exact .next (.refl s)

theorem execBurstEnd_freezeKept (s : State) : Answers (execBurstEnd s) s.FreezeKept := by
  unfold execBurstEnd
  split
  · exact .next s.releasePort_sameFreeze.kept
  · exact .next (.refl s)

/-- A mark is present only while the drain is RUNNING, where no abort is pending. -/
theorem execFlushComplete_freezeKept (s : State) : Answers (execFlushComplete s) s.FreezeKept := by
  unfold execFlushComplete
  split
  · next h =>
    refine .next fun hs => (State.arbitrate_sameFreeze _).kept ?_
    obtain ⟨m, hm, _⟩ := s.flushDue_iff.mp h.1
    have hrunning := hs.2.1 (by simp [hm])
    exact State.completeFlush_freezeSound hs h.1 (hs.abort_none (by rw [hrunning]; exact nofun))
  · exact .next (.refl s)

theorem execAbortCarriedOut_freezeKept (s : State) : Answers (execAbortCarriedOut s) s.FreezeKept := by
  unfold execAbortCarriedOut
  split
  · next h =>
    exact .next fun hs => (State.arbitrate_sameFreeze _).kept
      (State.carryOutAbort_freezeSound hs (hs.mark_none_of_abort h.1))
  · exact .next (.refl s)

theorem State.activateLink_freezeSound {s : State} (i : Fin 8) (hs : s.freezeSound)
    (habort : s.drain.abortPending = false) : (s.activateLink i).freezeSound :=
  State.freezeSound_of_running hs rfl rfl rfl habort

/-- LOAD_LINK of the link a STARVED drain points to starts the drain, with no abort pending. -/
theorem loadLinkEffect_freezeKept (ops : List Byte) (s : State) : s.FreezeKept (loadLinkEffect ops s).1 := by
  intro hs
  have hloaded : ∀ i l, (s.setLink i l).freezeSound := fun i l => hs
  unfold loadLinkEffect
  split
  · dsimp only
    split
    · exact hs
    · next i _ =>
      split
      · exact hs
      · split
        · exact hs
        · split
          · exact hs
          · split
            · exact hs
            · split
              · next hstarved =>
                refine (State.arbitrate_sameFreeze _).kept (State.activateLink_freezeSound i (hloaded _ _) ?_)
                exact hs.abort_none (by rw [hstarved.1]; exact nofun)
              · exact hloaded _ _
  · exact hs

theorem continueDrain_freezeKept (s : State) : s.FreezeKept s.continueDrain.1 := by
  intro hs
  have hrun : ∀ {u : State}, u.freezeSound → u.arbitrate.freezeSound := fun h => (State.arbitrate_sameFreeze _).kept h
  unfold State.continueDrain
  split
  · exact hs
  · next habort =>
    rw [Bool.not_eq_true] at habort
    split
    · exact hs
    · next hstopped =>
      rw [Ne, not_not] at hstopped
      split
      · exact hrun (State.freezeSound_of_running hs rfl rfl rfl habort)
      · split
        · exact hrun (State.activateLink_freezeSound _ hs habort)
        · have hmark := hs.mark_none (by rw [hstopped]; exact nofun)
          refine State.freezeSound_of_noMark (hs.not_freezing hmark) hmark fun hc => ?_
          exact (nomatch habort.symm.trans hc)

theorem startDrainEffect_freezeKept (ops : List Byte) (s : State) : s.FreezeKept (startDrainEffect ops s).1 := by
  unfold startDrainEffect
  split
  · exact .refl s
  · split
    · exact continueDrain_freezeKept s
    · split
      · exact .refl s
      · next i _ =>
        intro hs
        unfold State.startDrainAt
        split
        · exact hs
        · next habort =>
          dsimp only
          split
          · refine (State.arbitrate_sameFreeze _).kept (State.activateLink_freezeSound i ?_ ?_)
            · exact hs
            · exact Bool.eq_false_iff.mpr habort
          · exact hs

/-- A drain stopped with the end of its mark (R139, R140). -/
theorem State.stopped_freezeSound {s : State} (hs : s.freezeSound) :
    ({ s with drain := { s.drain with state := .stopped } } : State).endMark.freezeSound :=
  State.dropMark_freezeSound (s := { s with drain := { s.drain with state := .stopped } }) hs.1 fun _ => rfl

theorem stopDrainEffect_freezeKept (ops : List Byte) (s : State) : s.FreezeKept (stopDrainEffect ops s).1 := by
  intro hs
  have hstopped := (State.arbitrate_sameFreeze _).kept (State.stopped_freezeSound hs)
  unfold stopDrainEffect
  split
  · exact hstopped
  · exact hstopped
  · exact hs
  · exact hs

theorem abortDrainEffect_freezeKept (ops : List Byte) (s : State) : s.FreezeKept (abortDrainEffect ops s).1 := by
  intro hs
  have hstopped := State.stopped_freezeSound hs
  have hdrain : ({ s with drain := { s.drain with state := .stopped } } : State).endMark.drain =
      { s.drain with state := .stopped, mark := none } := State.dropMark_drain _ _
  unfold abortDrainEffect
  split
  · exact hs
  · split
    · dsimp only
      split
      · refine (State.arbitrate_sameFreeze _).kept ⟨hstopped.1, hstopped.2.1, fun _ => ?_⟩
        dsimp only
        rw [hdrain]
      · exact (State.arbitrate_sameFreeze _).kept (State.carryOutAbort_freezeSound hstopped (by rw [hdrain]))
    · exact hs

theorem flushEffect_freezeKept (ops : List Byte) (s : State) : s.FreezeKept (flushEffect ops s).1 := by
  intro hs
  unfold flushEffect
  split
  · exact hs
  · next hrunning =>
    rw [Ne, not_not] at hrunning
    split
    · exact hs
    · next hmark =>
      rw [Option.not_isSome_iff_eq_none] at hmark
      have habort := hs.abort_none (by rw [hrunning]; exact nofun)
      have hmarked : ({ s with drain := { s.drain with mark := some ⟨s.depth, .flush⟩ } } : State).freezeSound := by
        refine ⟨⟨fun hc => absurd hc (hs.not_freezing hmark), fun ⟨m, hm, ho⟩ => ?_⟩, fun _ => hrunning, hs.2.2⟩
        cases hm
        exact (nomatch ho)
      dsimp only
      split
      · next hempty =>
        refine (State.arbitrate_sameFreeze _).kept (State.completeFlush_freezeSound hmarked ?_ habort)
        exact (State.flushDue_iff _).mpr ⟨_, rfl, hempty.1⟩
      · exact hmarked

/-! ### The monitor's commands -/

theorem armEffect_freezeKept (ops : List Byte) (s : State) : s.FreezeKept (armEffect ops s).1 := by
  intro hs
  unfold armEffect
  split
  · exact hs
  · next hstandby =>
    rw [Ne, not_not] at hstandby
    split
    · exact hs
    · refine (State.arbitrate_sameFreeze _).kept ?_
      change s.armed.primeStep.freezeSound
      have hdrain : s.armed.primeStep.drain = s.drain := by simp [State.armed]
      have hstate : s.armed.primeStep.monitor.state = .run := by simp [State.armed]
      unfold State.freezeSound
      rw [hdrain, hstate]
      refine ⟨⟨nofun, fun hc => ?_⟩, hs.2⟩
      have hfreezing := hs.1.mpr hc
      rw [hstandby] at hfreezing
      exact (nomatch hfreezing)

/-- A mark that DISARM leaves is the one that was present, and no SNAP one (R152). -/
theorem dropSnapMark_eq_some {mark : Option FlushMark} {m : FlushMark} (h : dropSnapMark mark = some m) :
    mark = some m ∧ m.origin ≠ .snap := by
  cases mark with
  | none => exact (nomatch h)
  | some m' =>
    by_cases ho : m'.origin = .snap
    · simp [dropSnapMark, ho] at h
    · simp only [dropSnapMark, if_neg ho] at h
      cases h
      exact ⟨rfl, ho⟩

theorem disarmEffect_freezeKept (ops : List Byte) (s : State) : s.FreezeKept (disarmEffect ops s).1 := by
  intro hs
  unfold disarmEffect
  split
  · exact hs
  · rw [State.disarmMonitor_eq]
    refine (State.arbitrate_sameFreeze _).kept ?_
    have hdrain : s.stoodBy.primeLeft.drain = { s.drain with mark := dropSnapMark s.drain.mark } := by
      simp [State.stoodBy]
    have hstate : s.stoodBy.primeLeft.monitor.state = .standby := by simp [State.stoodBy]
    unfold State.freezeSound
    rw [hdrain, hstate]
    refine ⟨⟨nofun, fun ⟨m, hm, ho⟩ => absurd ho (dropSnapMark_eq_some hm).2⟩, fun hmark => ?_, hs.2.2⟩
    obtain ⟨m, hm⟩ := Option.isSome_iff_exists.mp hmark
    exact hs.2.1 (by rw [(dropSnapMark_eq_some hm).1]; rfl)

theorem resumeEffect_freezeKept (ops : List Byte) (s : State) : s.FreezeKept (resumeEffect ops s).1 := by
  intro hs
  unfold resumeEffect
  split
  · exact hs
  · next hfrozen =>
    rw [Ne, not_not] at hfrozen
    split
    · exact hs
    · refine ⟨⟨nofun, fun hc => ?_⟩, hs.2⟩
      have hfreezing := hs.1.mpr hc
      rw [hfrozen] at hfreezing
      exact (nomatch hfreezing)

/-- A SNAP edge taken in RUN (R156, R158): FREEZING with a SNAP mark, or FROZEN with a drain that does not run. -/
theorem State.startFreeze_freezeSound {s : State} (hs : s.freezeSound) : s.startFreeze.freezeSound := by
  unfold State.startFreeze
  dsimp only
  split
  · next hrunning =>
    refine ⟨⟨fun _ => ⟨_, rfl, rfl⟩, fun _ => rfl⟩, fun _ => by simpa using hrunning, fun hc => ?_⟩
    have habort := hs.abort_none (by rw [hrunning]; exact nofun)
    simp [habort] at hc
  · next hhalted =>
    refine State.freezeSound_of_noMark nofun ?_ ?_
    · simpa using hs.mark_none hhalted
    · simpa using hs.2.2

theorem execSnapEdge_freezeKept (s : State) : Answers (execSnapEdge s) s.FreezeKept := by
  unfold execSnapEdge
  split
  · exact .next (.refl s)
  · dsimp only
    split
    · refine .next fun hs => (State.arbitrate_sameFreeze _).kept (State.startFreeze_freezeSound ?_)
      exact hs
    · exact .next fun hs => hs

/-! ### Resets -/

theorem State.fullReset_freezeSound (s : State) (cause : ResetCause) : (s.fullReset cause).freezeSound :=
  State.freezeSound_of_noMark (by simp [State.fullReset]) (by simp [State.fullReset]) (by simp [State.fullReset])

theorem State.partialReset_freezeSound (s : State) : s.partialReset.freezeSound :=
  State.freezeSound_of_noMark (by simp [State.partialReset]) (by simp [State.partialReset, Drain.partialReset])
    (by simp [State.partialReset, Drain.partialReset])

theorem execFullReset_freezeKept (s : State) : Answers (execFullReset s) s.FreezeKept := by
  unfold execFullReset
  split
  · exact .next fun _ => s.fullReset_freezeSound .lineFull
  · exact .next (.refl s)

theorem execPartialReset_freezeKept (s : State) : Answers (execPartialReset s) s.FreezeKept := by
  unfold execPartialReset
  split
  · exact .next fun _ => s.partialReset_freezeSound
  · exact .next (.refl s)

/-! ### The commands that touch neither the monitor state nor the drain -/

/-- A frame keeps the freeze sound where the effect of its command does. -/
theorem runFrame_freezeKept {spec : FrameSpec} (h : ∀ f u, State.FreezeKept u (spec.effect f u).1) (ops : List Byte)
    (act : FrameAct) (s : State) : Answers (.next (runFrame spec ops act s)) s.FreezeKept := by
  refine .next ?_
  rcases runFrame_cases spec ops act s with ⟨p, hp⟩ | ⟨f, p, p', hp⟩
  · rw [hp]
    exact id
  · rw [hp]
    exact h f { s with port := p }

theorem plainFrame_freezeKept {code : Byte} {effect : List Byte → State → State × ResultCode}
    (h : ∀ ops u, State.FreezeKept u (effect ops u).1) (ops : List Byte) (act : FrameAct) (s : State) :
    Answers (.next (runFrame (plainFrame code effect) ops act s)) s.FreezeKept :=
  runFrame_freezeKept (fun f u => h f.ops u) ops act s

theorem State.regionCommand_sameFreeze {s : State} (index : Byte) (allowed : Region → Bool)
    {effect : Fin 32 → State} (h : ∀ r, s.SameFreeze (effect r)) :
    s.SameFreeze (s.regionCommand index allowed effect).1 := by
  unfold State.regionCommand
  split
  · exact .refl s
  · next r _ =>
    split
    · exact h r
    · exact .refl s

theorem State.enableRegion_sameFreeze (s : State) (r : Fin 32) : s.SameFreeze (s.enableRegion r) := by
  unfold State.enableRegion
  (repeat' split) <;> simp [State.SameFreeze]

theorem State.disableRegion_sameFreeze (s : State) (r : Fin 32) : s.SameFreeze (s.disableRegion r) := by
  unfold State.disableRegion
  dsimp only
  split <;> simp [State.SameFreeze]

theorem State.setThresholds_sameFreeze (s : State) (alert trip : Word) (r : Fin 32) :
    s.SameFreeze (s.setThresholds alert trip r) := by
  unfold State.setThresholds
  dsimp only
  split <;> simp [State.SameFreeze]

theorem enableRegionEffect_sameFreeze (ops : List Byte) (s : State) : s.SameFreeze (enableRegionEffect ops s).1 := by
  unfold enableRegionEffect
  split
  · exact .refl s
  · exact State.regionCommand_sameFreeze _ _ fun r => s.enableRegion_sameFreeze r

theorem disableRegionEffect_sameFreeze (ops : List Byte) (s : State) : s.SameFreeze (disableRegionEffect ops s).1 := by
  unfold disableRegionEffect
  split
  · exact .refl s
  · exact State.regionCommand_sameFreeze _ _ fun r => s.disableRegion_sameFreeze r

theorem releaseRegionEffect_sameFreeze (ops : List Byte) (s : State) : s.SameFreeze (releaseRegionEffect ops s).1 := by
  unfold releaseRegionEffect
  split
  · exact .refl s
  · exact State.regionCommand_sameFreeze _ _ fun r => .refl s

theorem clearTripEffect_sameFreeze (ops : List Byte) (s : State) : s.SameFreeze (clearTripEffect ops s).1 := by
  unfold clearTripEffect
  split
  · exact .refl s
  · exact State.regionCommand_sameFreeze _ _ fun r => .refl s

theorem clearCountsEffect_sameFreeze (ops : List Byte) (s : State) : s.SameFreeze (clearCountsEffect ops s).1 := by
  unfold clearCountsEffect
  split
  · exact .refl s
  · exact State.regionCommand_sameFreeze _ _ fun r => .refl s

theorem setSenseEffect_sameFreeze (ops : List Byte) (s : State) : s.SameFreeze (setSenseEffect ops s).1 := by
  unfold setSenseEffect
  split
  · exact State.regionCommand_sameFreeze _ _ fun r => .refl s
  · exact .refl s

theorem setThresholdsEffect_sameFreeze (ops : List Byte) (s : State) :
    s.SameFreeze (setThresholdsEffect ops s).1 := by
  unfold setThresholdsEffect
  split
  · split
    · exact .refl s
    · split
      · exact .refl s
      · split
        · exact s.setThresholds_sameFreeze _ _ _
        · exact .refl s
  · exact .refl s

theorem stageRegionEffect_sameFreeze (ops : List Byte) (s : State) : s.SameFreeze (stageRegionEffect ops s).1 := by
  unfold stageRegionEffect
  split <;> exact .refl s

theorem commitRegionEffect_sameFreeze (ops : List Byte) (s : State) : s.SameFreeze (commitRegionEffect ops s).1 := by
  unfold commitRegionEffect
  (repeat' split) <;> exact .refl s

theorem clearNoticeEffect_sameFreeze (ops : List Byte) (s : State) : s.SameFreeze (clearNoticeEffect ops s).1 := by
  unfold clearNoticeEffect
  split <;> exact .refl s

theorem setNoticeMaskEffect_sameFreeze (ops : List Byte) (s : State) :
    s.SameFreeze (setNoticeMaskEffect ops s).1 := by
  unfold setNoticeMaskEffect
  split <;> exact .refl s

theorem unloadLinkEffect_sameFreeze (ops : List Byte) (s : State) : s.SameFreeze (unloadLinkEffect ops s).1 := by
  unfold unloadLinkEffect
  (repeat' split) <;> exact .refl s

theorem discardQueueEffect_sameFreeze (ops : List Byte) (s : State) :
    s.SameFreeze (discardQueueEffect ops s).1 := by
  unfold discardQueueEffect
  split <;> simp [State.SameFreeze]

theorem setTimebaseEffect_sameFreeze (ops : List Byte) (s : State) : s.SameFreeze (setTimebaseEffect ops s).1 := by
  rw [setTimebaseEffect_eq]
  exact .refl s

theorem setOptionsEffect_sameFreeze (ops : List Byte) (s : State) : s.SameFreeze (setOptionsEffect ops s).1 := by
  unfold setOptionsEffect
  (repeat' split) <;> exact .refl s

theorem setShadowPointerEffect_sameFreeze (ops : List Byte) (s : State) :
    s.SameFreeze (setShadowPointerEffect ops s).1 := by
  unfold setShadowPointerEffect
  (repeat' split) <;> exact .refl s

theorem readNoticeFrame_sameFreeze (f : Frame) (s : State) : s.SameFreeze (readNoticeFrame.effect f s).1 := by
  simp only [readNoticeFrame]
  (repeat' split) <;> exact .refl s

theorem readRegionFrame_sameFreeze (f : Frame) (s : State) : s.SameFreeze (readRegionFrame.effect f s).1 := by
  simp only [readRegionFrame]
  (repeat' split) <;> exact .refl s

theorem readLinkFrame_sameFreeze (f : Frame) (s : State) : s.SameFreeze (readLinkFrame.effect f s).1 := by
  simp only [readLinkFrame]
  (repeat' split) <;> exact .refl s

theorem readShadowFrame_sameFreeze (f : Frame) (s : State) : s.SameFreeze (readShadowFrame.effect f s).1 := by
  simp only [readShadowFrame]
  (repeat' split) <;> exact .refl s

theorem popEventFrame_sameFreeze (f : Frame) (s : State) : s.SameFreeze (popEventFrame.effect f s).1 := by
  simp only [popEventFrame]
  (repeat' split) <;> simp [State.SameFreeze]

theorem execBadCommand_freezeKept (command : Option Byte) (act : FrameAct) (s : State) :
    Answers (execBadCommand command act s) s.FreezeKept := by
  unfold execBadCommand
  split
  · exact .next (.refl s)
  · exact runFrame_freezeKept (fun _ u => .refl u) _ act s

/-- The rows of the master bus, the Prime Engine and the Timebase touch neither the monitor nor the drain. -/
theorem execMasterCycleArrives_sameFreeze (moe mwe : Bool) (addr : Addr) (enables : BitVec 2) (data : Word)
    (parity : BitVec 2) (s : State) :
    Answers (execMasterCycleArrives moe mwe addr enables data parity s) s.SameFreeze := by
  unfold execMasterCycleArrives
  split <;> exact .next (by simp [State.SameFreeze])

theorem execWriteGrant_sameFreeze (s : State) : Answers (execWriteGrant s) s.SameFreeze := by
  unfold execWriteGrant
  dsimp only
  (repeat' split) <;> exact .next (by simp [State.SameFreeze, State.forward])

theorem execReadGrant_sameFreeze (s : State) : Answers (execReadGrant s) s.SameFreeze := by
  unfold execReadGrant
  (repeat' split) <;> exact .next (.refl s)

theorem execPrimeGrant_sameFreeze (s : State) : Answers (execPrimeGrant s) s.SameFreeze := by
  unfold execPrimeGrant
  (repeat' split) <;> exact .next (by simp [State.SameFreeze, State.issuePrime])

theorem execWriteCompletion_sameFreeze (s : State) : Answers (execWriteCompletion s) s.SameFreeze := by
  unfold execWriteCompletion
  (repeat' split) <;> exact .next (by simp [State.SameFreeze])

theorem execReadCompletion_sameFreeze (data : Word) (parity : BitVec 2) (s : State) :
    Answers (execReadCompletion data parity s) s.SameFreeze := by
  unfold execReadCompletion
  (repeat' split) <;> exact .next (by simp [State.SameFreeze])

theorem execPrimeReadCompletion_sameFreeze (data : Word) (parity : BitVec 2) (s : State) :
    Answers (execPrimeReadCompletion data parity s) s.SameFreeze := by
  unfold execPrimeReadCompletion
  (repeat' split) <;> exact .next (by simp [State.SameFreeze])

theorem execDecayTick_sameFreeze (s : State) : Answers (execDecayTick s) s.SameFreeze := by
  unfold execDecayTick
  split <;> exact .next (by simp [State.SameFreeze])

theorem execSettleExpiry_sameFreeze (s : State) : Answers (execSettleExpiry s) s.SameFreeze := by
  unfold execSettleExpiry
  (repeat' split) <;> exact .next (by simp [State.SameFreeze])

theorem execTclkPeriod_sameFreeze (s : State) : Answers (execTclkPeriod s) s.SameFreeze := by
  unfold execTclkPeriod
  split <;> exact .next (by simp [State.SameFreeze])

/-! ### Every command -/

theorem exec_freezeKept (c : Instr) (s : State) : Answers (exec c s) s.FreezeKept := by
  cases c with
  | readStatus act => exact runFrame_freezeKept (fun _ u => .refl u) [] act s
  | readNotice act => exact runFrame_freezeKept (fun f u => (readNoticeFrame_sameFreeze f u).kept) [] act s
  | clearNotice ops act => exact plainFrame_freezeKept (fun o u => (clearNoticeEffect_sameFreeze o u).kept) ops act s
  | setNoticeMask ops act =>
    exact plainFrame_freezeKept (fun o u => (setNoticeMaskEffect_sameFreeze o u).kept) ops act s
  | stageRegion ops act => exact plainFrame_freezeKept (fun o u => (stageRegionEffect_sameFreeze o u).kept) ops act s
  | commitRegion ops act =>
    exact plainFrame_freezeKept (fun o u => (commitRegionEffect_sameFreeze o u).kept) ops act s
  | readRegion ops act => exact runFrame_freezeKept (fun f u => (readRegionFrame_sameFreeze f u).kept) ops act s
  | enableRegion ops act => exact plainFrame_freezeKept (fun o u => (enableRegionEffect_sameFreeze o u).kept) ops act s
  | disableRegion ops act =>
    exact plainFrame_freezeKept (fun o u => (disableRegionEffect_sameFreeze o u).kept) ops act s
  | releaseRegion ops act =>
    exact plainFrame_freezeKept (fun o u => (releaseRegionEffect_sameFreeze o u).kept) ops act s
  | setSense ops act => exact plainFrame_freezeKept (fun o u => (setSenseEffect_sameFreeze o u).kept) ops act s
  | clearTrip ops act =>
    exact plainFrame_freezeKept (fun o u => (clearTripEffect_sameFreeze o u).kept) ops act s
  | clearCounts ops act =>
    exact plainFrame_freezeKept (fun o u => (clearCountsEffect_sameFreeze o u).kept) ops act s
  | setThresholds ops act =>
    exact plainFrame_freezeKept (fun o u => (setThresholdsEffect_sameFreeze o u).kept) ops act s
  | loadLink ops act => exact plainFrame_freezeKept loadLinkEffect_freezeKept ops act s
  | readLink ops act => exact runFrame_freezeKept (fun f u => (readLinkFrame_sameFreeze f u).kept) ops act s
  | startDrain ops act => exact plainFrame_freezeKept startDrainEffect_freezeKept ops act s
  | startDrainContinue act => exact plainFrame_freezeKept startDrainEffect_freezeKept [0xFF] act s
  | stopDrain act => exact plainFrame_freezeKept stopDrainEffect_freezeKept [] act s
  | flush act => exact plainFrame_freezeKept flushEffect_freezeKept [] act s
  | abortDrain act => exact plainFrame_freezeKept abortDrainEffect_freezeKept [] act s
  | popEvent act => exact runFrame_freezeKept (fun f u => (popEventFrame_sameFreeze f u).kept) [] act s
  | discardQueue act => exact plainFrame_freezeKept (fun o u => (discardQueueEffect_sameFreeze o u).kept) [] act s
  | unloadLink ops act => exact plainFrame_freezeKept (fun o u => (unloadLinkEffect_sameFreeze o u).kept) ops act s
  | arm act => exact plainFrame_freezeKept armEffect_freezeKept [] act s
  | disarm act => exact plainFrame_freezeKept disarmEffect_freezeKept [] act s
  | resume act => exact plainFrame_freezeKept resumeEffect_freezeKept [] act s
  | setTimebase ops act => exact plainFrame_freezeKept (fun o u => (setTimebaseEffect_sameFreeze o u).kept) ops act s
  | setOptions ops act => exact plainFrame_freezeKept (fun o u => (setOptionsEffect_sameFreeze o u).kept) ops act s
  | setShadowPointer ops act =>
    exact plainFrame_freezeKept (fun o u => (setShadowPointerEffect_sameFreeze o u).kept) ops act s
  | readShadow ops act => exact runFrame_freezeKept (fun f u => (readShadowFrame_sameFreeze f u).kept) ops act s
  | reset act => exact plainFrame_freezeKept (fun _ u _ => u.fullReset_freezeSound .command) [] act s
  | badCommand command act => exact execBadCommand_freezeKept command act s
  | masterCycleArrives moe mwe addr enables data parity =>
    exact (execMasterCycleArrives_sameFreeze moe mwe addr enables data parity s).freezeKept
  | masterCycleWithdrawn => exact .next (State.SameFreeze.kept (by simp [State.SameFreeze]))
  | masterCycleEnds => exact .next (State.SameFreeze.kept (by simp [State.SameFreeze]))
  | writeGrant => exact (execWriteGrant_sameFreeze s).freezeKept
  | readGrant => exact (execReadGrant_sameFreeze s).freezeKept
  | primeGrant => exact (execPrimeGrant_sameFreeze s).freezeKept
  | drainGrant => exact execDrainGrant_freezeKept s
  | writeCompletion => exact (execWriteCompletion_sameFreeze s).freezeKept
  | readCompletion data parity => exact (execReadCompletion_sameFreeze data parity s).freezeKept
  | primeReadCompletion data parity => exact (execPrimeReadCompletion_sameFreeze data parity s).freezeKept
  | drainWriteCompletion => exact execDrainWriteCompletion_freezeKept s
  | recordWriteCompletion => exact execRecordWriteCompletion_freezeKept s
  | padWriteCompletion => exact execPadWriteCompletion_freezeKept s
  | burstEnd => exact execBurstEnd_freezeKept s
  | snapEdge => exact execSnapEdge_freezeKept s
  | snapLineFalls => exact .next (State.SameFreeze.refl s).kept
  | powerOnReset snap rst => exact .next fun _ => s.fullReset_freezeSound .power
  | fullReset => exact execFullReset_freezeKept s
  | partialReset => exact execPartialReset_freezeKept s
  | baseTick => exact .next (State.SameFreeze.kept (by simp [State.SameFreeze]))
  | decayTick => exact (execDecayTick_sameFreeze s).freezeKept
  | settleExpiry => exact (execSettleExpiry_sameFreeze s).freezeKept
  | flushComplete => exact execFlushComplete_freezeKept s
  | abortCarriedOut => exact execAbortCarriedOut_freezeKept s
  | lossPlacement => exact .next (State.SameFreeze.kept (by simp [State.SameFreeze]))
  | tclkPeriod => exact (execTclkPeriod_sameFreeze s).freezeKept
  | rstLineRises => exact .next (State.SameFreeze.refl s).kept

/-- Settles O55: the first four facts are kept by every elementary move, and every command is a chain of such moves
(`exec_moves`); the last is kept by each command (`exec_freezeKept`). A step is the command at the front of the
queue. -/
theorem stepsKeepQueueRangesNoticesAndFreeze : Obligations.StepsKeepQueueRangesNoticesAndFreeze := by
  refine ⟨fun s t h => step_keeps_of_moves State.Move.queueSound (fun _ _ hs => hs) h,
    fun s t h => step_keeps_of_moves State.Move.rangesSound (fun _ _ hs => hs) h,
    fun s t h => step_keeps_of_moves State.Move.portSound (fun _ _ hs => hs) h,
    fun s t h => step_keeps_of_moves State.Move.noticesSound (fun _ _ hs => hs) h, fun s t hstep hs => ?_⟩
  unfold step at hstep
  split at hstep
  · cases hstep
    exact hs
  · next c rest _ =>
    obtain ⟨u, hu, hkept⟩ := exec_freezeKept c { s with pending := rest }
    rw [hu] at hstep
    cases hstep
    exact hkept hs

end Sys2Proof.Machine
end

section
/-! Clearing notices, master cycles arriving and ending, the arbiter's decision and the parity check. -/

namespace Sys2Proof.Machine

/-! ### CLEAR_NOTICE -/

theorem noticeBits_getLsbD (hi lo : Byte) (n : Notice) :
    (noticeBits hi lo).getLsbD n.position = (wordOf hi lo).getLsbD n.position := by
  cases n <;> simp [noticeBits, Notice.position]

/-- Settles O12: the effect of CLEAR_NOTICE is `State.clearNotices`, whose flags and side states are said once. -/
theorem clearNoticeClearsNamedFlags : Obligations.ClearNoticeClearsNamedFlags := by
  intro s hi lo rest hrecv
  refine ⟨_, finish_of_effect hrecv _ rfl, fun n => ?_, ?_⟩
  · rw [← noticeBits_getLsbD]
    exact s.clearNotices_noticeSet (noticeBits hi lo) n
  · obtain ⟨hcompleteness, hreported⟩ := s.clearNotices_sideStates (noticeBits hi lo)
    simp only [noticeBits_getLsbD, Bool.and_eq_true] at hcompleteness hreported
    rw [show (7 : Nat) = Notice.snapDone.position from rfl, show (10 : Nat) = Notice.clash.position from rfl,
      ← hcompleteness, ← hreported]
    rfl

/-! ### The arbiter -/

theorem State.arbitrate_of_owned {s : State} (h : s.arb.owner.isSome = true) : s.arbitrate = s :=
  if_pos h

theorem State.arbitrate_of_claimed {s : State} {c : Claimant} (h : s.arb.award = some c) (hc : s.claims c = true) :
    s.arbitrate = s := by
  simp [State.arbitrate, h, hc]

/-- A free port with no grant decided takes the decision of R29. -/
theorem State.arbitrate_of_free {s : State} (howner : s.arb.owner = none) (haward : s.arb.award = none) :
    s.arbitrate = { s with arb := { s.arb with award := s.decision } } := by
  simp [State.arbitrate, howner, haward]

theorem State.arbitrate_award_of_free {s : State} (howner : s.arb.owner = none) (haward : s.arb.award = none) :
    s.arbitrate.arb.award = s.decision := by
  rw [State.arbitrate_of_free howner haward]

theorem State.decision_of_master {s : State} (h : s.masterClaims = true) : s.decision = some .master :=
  if_pos h

theorem State.decision_of_prime {s : State} (hmaster : s.masterClaims = false) (hprime : s.prime.claim = true)
    (hdrain : s.drainClaims = false) : s.decision = some .prime := by
  simp [State.decision, hmaster, hprime, hdrain]

theorem State.decision_of_drain {s : State} (hmaster : s.masterClaims = false) (hprime : s.prime.claim = false)
    (hdrain : s.drainClaims = true) : s.decision = some .drain := by
  simp [State.decision, hmaster, hprime, hdrain]

theorem State.decision_of_none {s : State} (hmaster : s.masterClaims = false) (hprime : s.prime.claim = false)
    (hdrain : s.drainClaims = false) : s.decision = none := by
  simp [State.decision, hmaster, hprime, hdrain]

/-- Prime and drain together (R29): the high mark, then the last background owner. -/
theorem State.decision_of_both {s : State} (hmaster : s.masterClaims = false) (hprime : s.prime.claim = true)
    (hdrain : s.drainClaims = true) :
    (s.queue.highMark ≤ s.depth → s.decision = some .drain) ∧
      (s.depth < s.queue.highMark →
        (s.arb.lastBackground = .prime → s.decision = some .drain) ∧
        (s.arb.lastBackground = .drain → s.decision = some .prime)) := by
  refine ⟨fun hhigh => ?_, fun hlow => ⟨fun hlast => ?_, fun hlast => ?_⟩⟩
  · simp only [State.decision, hmaster, hprime, hdrain, if_pos hhigh]
    rfl
  · simp only [State.decision, hmaster, hprime, hdrain, hlast, if_neg (Nat.not_le.mpr hlow)]
    rfl
  · simp only [State.decision, hmaster, hprime, hdrain, hlast, if_neg (Nat.not_le.mpr hlow)]
    rfl

/-- The master is decided for only while it claims. -/
theorem State.decision_ne_master {s : State} (h : s.masterClaims = false) : s.decision ≠ some .master := by
  unfold State.decision
  rw [if_neg (Bool.eq_false_iff.mp h)]
  (repeat' split) <;> exact nofun

/-- At a free port no grant to the master stands that the master does not claim. -/
theorem State.arbitrate_award_ne_master {s : State} (howner : s.arb.owner = none) (h : s.masterClaims = false) :
    s.arbitrate.arb.award ≠ some .master := by
  unfold State.arbitrate
  rw [if_neg (by simp [howner])]
  split
  · next c haward =>
    split
    · next hclaims =>
      rw [haward]
      rintro ⟨⟩
      exact (nomatch h.symm.trans hclaims)
    · exact State.decision_ne_master h
  · exact State.decision_ne_master h

theorem State.masterClaims_iff (s : State) :
    s.masterClaims = true ↔ ∃ c, s.path.cycle = some c ∧ c.phase = .waiting := by
  unfold State.masterClaims
  cases s.path.cycle <;> simp

theorem State.drainClaims_iff (s : State) :
    s.drainClaims = true ↔ s.drain.state = .running ∧ s.drain.current.isSome ∧ s.queue.records ≠ [] := by
  simp [State.drainClaims, List.length_pos_iff, and_assoc]

/-- Settles O41: R29's decision in its cases, one lemma for each. -/
theorem arbiterDecidesByPriority : Obligations.ArbiterDecidesByPriority := by
  refine ⟨fun s howner haward => ?_, fun s howner => State.arbitrate_of_owned howner,
    fun s c haward hc => State.arbitrate_of_claimed haward hc, fun s => ⟨s.masterClaims_iff, s.drainClaims_iff⟩⟩
  dsimp only
  rw [State.arbitrate_award_of_free howner haward]
  exact ⟨State.arbitrate_of_free howner haward, State.decision_of_master, State.decision_of_prime,
    State.decision_of_drain, State.decision_of_both, State.decision_of_none⟩

/-! ### Master cycles -/

theorem masterCycleArrives_taken {s : State} {moe mwe : Bool} (hcycle : s.path.cycle = none)
    (hstrobe : moe = true ∨ mwe = true) (addr : Addr) (enables : BitVec 2) (data : Word) (parity : BitVec 2) :
    exec (.masterCycleArrives moe mwe addr enables data parity) s = .next ({ s with path := { s.path with
      cycle := some {
        write := mwe
        addr := addr
        enables := enables
        data := if mwe then data else 0
        parity := if mwe then parity else 0
        phase := .waiting }
      mwait := true
      mberr := false
      readData := none } } : State).arbitrate := by
  refine if_neg ?_
  rintro (hc | ⟨rfl, rfl⟩)
  · simp [hcycle] at hc
  · simp at hstrobe

/-- Settles O40: what the rows write, and the arbiter's decision after them. -/
theorem masterCyclesArriveAndEnd : Obligations.MasterCyclesArriveAndEnd := by
  refine ⟨fun s moe mwe addr enables parity data => ⟨fun hcycle hstrobe => ?_, fun h => if_pos h⟩,
    fun c s hc => ⟨s.endMasterCycle, ?_, ?_, fun howner => ?_⟩⟩
  · refine ⟨_, masterCycleArrives_taken hcycle hstrobe addr enables data parity, State.arbitrate_eq _,
      fun howner haward => ?_⟩
    refine Eq.trans (State.arbitrate_award_of_free howner haward) ?_
    exact State.decision_of_master ((State.masterClaims_iff _).mpr ⟨_, rfl, rfl⟩)
  · rcases hc with rfl | rfl <;> rfl
  · exact State.arbitrate_eq _
  · exact State.arbitrate_award_ne_master howner rfl

/-! ### The parity check -/

/-- The fold of R41 counts the ones, modulo two. -/
theorem foldl_bne_eq_countP {α : Type} (p : α → Bool) (l : List α) (b : Bool) :
    l.foldl (fun acc i => acc != p i) b = (b != decide (l.countP p % 2 = 1)) := by
  induction l generalizing b with
  | nil => simp
  | cons x rest ih =>
    rw [List.foldl_cons, ih, List.countP_cons]
    cases hx : p x
    · simp
    · have hflip : decide ((rest.countP p + 1) % 2 = 1) = !decide (rest.countP p % 2 = 1) := by
        rw [← decide_not]
        exact decide_eq_decide.mpr (by omega)
      simp [hflip]

theorem oddOnes_eq (b : Byte) : oddOnes b = decide ((List.range 8).countP (fun n => b.getLsbD n) % 2 = 1) := by
  rw [oddOnes, foldl_bne_eq_countP]
  simp

/-- A byte of `d` and its line hold an even number of ones. -/
theorem oddOnes_beq_line_iff (d : Word) (start : Nat) (line : Bool) :
    (oddOnes (d.extractLsb' start 8) == line) = true ↔
      ((List.range 8).countP (fun n => d.getLsbD (start + n)) + (if line then 1 else 0)) % 2 = 0 := by
  have hbits : (List.range 8).countP (fun n => (d.extractLsb' start 8).getLsbD n) =
      (List.range 8).countP fun n => d.getLsbD (start + n) := by
    refine List.countP_congr fun n hn => ?_
    simp [List.mem_range.mp hn]
  rw [oddOnes_eq, hbits]
  cases line
  · simp
  · simp
    omega

theorem parityError_iff (enables lines : BitVec 2) (d : Word) : parityError enables d lines = true ↔
    (enables.getLsbD 1 = true ∧ ((List.range 8).countP (fun n => d.getLsbD (8 + n)) +
      (if lines.getLsbD 1 then 1 else 0)) % 2 = 0) ∨
    (enables.getLsbD 0 = true ∧ ((List.range 8).countP (fun n => d.getLsbD n) +
      (if lines.getLsbD 0 then 1 else 0)) % 2 = 0) := by
  have hlow := oddOnes_beq_line_iff d 0 (lines.getLsbD 0)
  simp only [Nat.zero_add] at hlow
  rw [parityError, Bool.or_eq_true, Bool.and_eq_true, Bool.and_eq_true, oddOnes_beq_line_iff, hlow]

theorem ofBool_append_getLsbD (x y : Bool) :
    (BitVec.ofBool x ++ BitVec.ofBool y).getLsbD 1 = x ∧ (BitVec.ofBool x ++ BitVec.ofBool y).getLsbD 0 = y := by
  revert x y
  decide

/-- The lines that accompany a word the block writes never make an error. -/
theorem parityError_parityLines (enables : BitVec 2) (d : Word) : parityError enables d (parityLines d) = false := by
  obtain ⟨hhigh, hlow⟩ := ofBool_append_getLsbD (!oddOnes (d.extractLsb' 8 8)) (!oddOnes (d.extractLsb' 0 8))
  rw [parityError, parityLines, hhigh, hlow]
  simp

/-- Creating a record where a producer's monitor runs changes the queue and the notices alone. -/
theorem State.produce_eq (s : State) (b : Report) :
    s.produce b = { s with queue := (s.produce b).queue, notices := (s.produce b).notices } := by
  unfold State.produce
  split
  · exact s.createRecord_eq b
  · rfl

theorem State.produce_queue_of_run {s : State} (h : s.monitor.state = .run) (b : Report) :
    (s.produce b).queue = (s.createRecord b).queue := by
  rw [State.produce, if_pos h]

theorem State.produce_of_not_run {s : State} (h : s.monitor.state ≠ .run) (b : Report) : s.produce b = s :=
  if_neg h

/-- A parity check touches the queue and the notices alone (R43). -/
theorem State.checkParity_eq (s : State) (dir : Direction) (a : Addr) (enables : BitVec 2) (d : Word)
    (lines : BitVec 2) :
    s.checkParity dir a enables d lines =
      { s with queue := (s.checkParity dir a enables d lines).queue
               notices := (s.checkParity dir a enables d lines).notices } := by
  unfold State.checkParity
  split
  · rw [State.produce_eq]
    rfl
  · rfl

/-- Settles O42: the parity of a byte is the parity of its count of ones (`oddOnes_eq`), and an error sets the notice
and produces the record. -/
theorem parityErrorsAreNoticed : Obligations.ParityErrorsAreNoticed := by
  refine ⟨fun enables lines d => parityError_iff enables lines d, fun s dir a enables lines d => ?_⟩
  refine ⟨fun hnone => if_neg hnone, fun herror => ⟨s.checkParity_eq dir a enables d lines, ?_⟩⟩
  rw [State.checkParity, if_pos herror]
  refine ⟨State.produce_noticeSet (s.setNotice_noticeSet .parity) _, fun hidle => ?_, fun hrun => ?_⟩
  · rw [State.produce_of_not_run (s := s.setNotice .parity) hidle]
    rfl
  · rw [State.produce_queue_of_run (s := s.setNotice .parity) hrun]
    exact State.createRecord_queue_congr (s := s.setNotice .parity) (u := s) rfl rfl _

end Sys2Proof.Machine
end

section
/-! A master write at its grant (R32 to R36): the three ways out, and what each counts and reports. -/

namespace Sys2Proof.Machine

/-! ### The parts of a refusal -/

/-- A refused write ends towards the master and changes nothing else but the decision (R34). -/
theorem State.completeRefused_eq (s : State) (c : MasterCycle) (mberr : Bool) :
    s.completeRefused c mberr = { s with
      path := { s.path with
        cycle := some { c with phase := .completed }
        mwait := false
        mberr := mberr }
      arb := { s.arb with award := (s.completeRefused c mberr).arb.award } } := by
  unfold State.completeRefused
  rw [State.arbitrate_eq]

/-- The report of a refused write (R35, R36). -/
def refuseReport (region : Option (Fin 32)) (reason : Word) (c : MasterCycle) : Report where
  kind := .refuse
  region := region
  addr := some c.addr
  valueA := reason
  valueB := enabledData c.enables c.data

/-- CLASH noticed and marked as reported (R36). -/
def State.clashMarked (s : State) : State :=
  { s.setNotice .clash with path := { s.path with clashReported := true } }

theorem State.clashMarked_noticeSet (s : State) : s.clashMarked.noticeSet .clash = true :=
  show (s.setNotice .clash).noticeSet .clash = true from s.setNotice_noticeSet .clash

theorem State.countClash_reported {s : State} (h : s.monitor.state = .run ∧ s.path.clashReported = false)
    (c : MasterCycle) :
    s.countClash c = s.clashMarked.createRecord (refuseReport none 3 c) :=
  if_pos h

theorem State.countClash_silent {s : State} (h : ¬(s.monitor.state = .run ∧ s.path.clashReported = false))
    (c : MasterCycle) : s.countClash c = s.setNotice .clash :=
  if_neg h

theorem State.countClash_path (s : State) (c : MasterCycle) :
    (s.countClash c).path = { s.path with
      clashReported := s.path.clashReported || decide (s.monitor.state = .run) } := by
  by_cases h : s.monitor.state = .run ∧ s.path.clashReported = false
  · rw [State.countClash_reported h]
    simp [State.clashMarked, h.1]
  · rw [State.countClash_silent h]
    have hkept : (s.path.clashReported || decide (s.monitor.state = .run)) = s.path.clashReported := by
      cases hreported : s.path.clashReported <;> simp_all
    rw [hkept]
    rfl

theorem State.countClash_noticeSet (s : State) (c : MasterCycle) : (s.countClash c).noticeSet .clash = true := by
  by_cases h : s.monitor.state = .run ∧ s.path.clashReported = false
  · rw [State.countClash_reported h]
    exact State.createRecord_noticeSet s.clashMarked_noticeSet _
  · rw [State.countClash_silent h]
    exact s.setNotice_noticeSet .clash

/-- CLASH is reported once until its flag is cleared (R36). -/
theorem State.countClash_queue (s : State) (c : MasterCycle) :
    (s.monitor.state = .run ∧ s.path.clashReported = false →
      (s.countClash c).queue = (s.createRecord (refuseReport none 3 c)).queue) ∧
    (¬(s.monitor.state = .run ∧ s.path.clashReported = false) → (s.countClash c).queue = s.queue) := by
  refine ⟨fun h => ?_, fun h => ?_⟩
  · rw [State.countClash_reported h]
    exact State.createRecord_queue_congr (s := s.clashMarked) (u := s) rfl rfl _
  · rw [State.countClash_silent h]
    rfl

/-- The record of a region that has refused a write, counted (R35). -/
def Region.refused (x : Region) (run : Bool) : Region :=
  { x with refusals := satInc x.refusals, refusalReported := x.refusalReported || run }

theorem State.countRefusal_reported {s : State} {r : Fin 32}
    (h : s.monitor.state = .run ∧ (s.region r).refusalReported = false) (reason : Word) (c : MasterCycle) :
    s.countRefusal r reason c = ((s.modRegion r fun x => { x with refusals := satInc x.refusals }).modRegion r
      fun x => { x with refusalReported := true }).createRecord (refuseReport (some r) reason c) :=
  if_pos h

theorem State.countRefusal_silent {s : State} {r : Fin 32}
    (h : ¬(s.monitor.state = .run ∧ (s.region r).refusalReported = false)) (reason : Word) (c : MasterCycle) :
    s.countRefusal r reason c = s.modRegion r fun x => { x with refusals := satInc x.refusals } :=
  if_neg h

theorem State.countRefusal_region (s : State) (r : Fin 32) (reason : Word) (c : MasterCycle) :
    (s.countRefusal r reason c).region r = (s.region r).refused (decide (s.monitor.state = .run)) := by
  by_cases h : s.monitor.state = .run ∧ (s.region r).refusalReported = false
  · rw [State.countRefusal_reported h]
    simp [Region.refused, h.1]
  · rw [State.countRefusal_silent h]
    have hkept : ((s.region r).refusalReported || decide (s.monitor.state = .run)) = (s.region r).refusalReported := by
      cases hreported : (s.region r).refusalReported <;> simp_all
    rw [Region.refused, hkept]
    simp

theorem State.countRefusal_region_other (s : State) {r q : Fin 32} (h : q ≠ r) (reason : Word) (c : MasterCycle) :
    (s.countRefusal r reason c).region q = s.region q := by
  unfold State.countRefusal
  dsimp only
  split <;> simp [h.symm]

/-- A region's refusals are reported once until its flag is cleared (R35). -/
theorem State.countRefusal_queue (s : State) (r : Fin 32) (reason : Word) (c : MasterCycle) :
    (s.monitor.state = .run ∧ (s.region r).refusalReported = false →
      (s.countRefusal r reason c).queue = (s.createRecord (refuseReport (some r) reason c)).queue) ∧
    (¬(s.monitor.state = .run ∧ (s.region r).refusalReported = false) →
      (s.countRefusal r reason c).queue = s.queue ∧ (s.countRefusal r reason c).notices = s.notices) := by
  refine ⟨fun h => ?_, fun h => ?_⟩
  · rw [State.countRefusal_reported h]
    exact State.createRecord_queue_congr (by simp) (by simp) _
  · rw [State.countRefusal_silent h]
    simp

/-! ### The grant -/

theorem State.grantedCycle_of_waiting {s : State} {c : MasterCycle} (howner : s.arb.owner = none)
    (haward : s.arb.award = some .master) (hcycle : s.path.cycle = some c) (hphase : c.phase = .waiting) :
    s.grantedCycle = some c := by
  rw [State.grantedCycle, if_pos ⟨howner, haward⟩, hcycle]
  simp [Option.filter, hphase]

/-- The ways out of a write's grant (R32, R33): CLASH, the region's LOCK or TRIP, or the memory. -/
theorem execWriteGrant_cases {s : State} {c : MasterCycle} (hgranted : s.grantedCycle = some c)
    (hwrite : c.write = true) :
    let u := s.checkParity .write c.addr c.enables c.data c.parity
    (s.clashes c.addr = true ∧ exec .writeGrant s = .next ((u.countClash c).completeRefused c true)) ∨
    (∃ r, s.clashes c.addr = false ∧ s.actingRegion c.addr = some r ∧
      ((s.region r).cfg.lock = true ∨ (s.region r).tripLatch = true) ∧
      exec .writeGrant s = .next ((u.countRefusal r (if (s.region r).cfg.lock then 1 else 2) c).completeRefused c
        ((s.region r).cfg.policy == .error))) ∨
    (s.clashes c.addr = false ∧ (∀ r, s.actingRegion c.addr = some r →
        (s.region r).cfg.lock = false ∧ (s.region r).tripLatch = false) ∧
      exec .writeGrant s = .next (u.forward c)) := by
  have hexec : exec .writeGrant s = execWriteGrant s := rfl
  dsimp only
  rw [hexec, execWriteGrant, hgranted]
  simp only [hwrite, Bool.true_eq_false, if_false]
  cases hclash : s.clashes c.addr with
  | true =>
    have hrefusal : s.refusal c.addr = some .clash := if_pos hclash
    exact .inl ⟨rfl, by rw [hrefusal]⟩
  | false =>
    refine .inr ?_
    cases hacting : s.actingRegion c.addr with
    | none =>
      have hrefusal : s.refusal c.addr = none := by simp [State.refusal, hclash, hacting]
      exact .inr ⟨rfl, nofun, by rw [hrefusal]⟩
    | some r =>
      cases hlock : (s.region r).cfg.lock with
      | true =>
        have hrefusal : s.refusal c.addr = some (.lock r) := by
          rw [State.refusal, if_neg (Bool.eq_false_iff.mp hclash), hacting]
          exact if_pos hlock
        exact .inl ⟨r, rfl, rfl, .inl hlock, by rw [hrefusal, hlock]; rfl⟩
      | false =>
        cases htrip : (s.region r).tripLatch with
        | true =>
          have hrefusal : s.refusal c.addr = some (.trip r) := by
            rw [State.refusal, if_neg (Bool.eq_false_iff.mp hclash), hacting]
            exact (if_neg (Bool.eq_false_iff.mp hlock)).trans (if_pos htrip)
          exact .inl ⟨r, rfl, rfl, .inr htrip, by rw [hrefusal, hlock]; rfl⟩
        | false =>
          have hrefusal : s.refusal c.addr = none := by
            rw [State.refusal, if_neg (Bool.eq_false_iff.mp hclash), hacting]
            exact (if_neg (Bool.eq_false_iff.mp hlock)).trans (if_neg (Bool.eq_false_iff.mp htrip))
          refine .inr ⟨rfl, fun q hq => ?_, by rw [hrefusal]⟩
          cases hq
          exact ⟨hlock, htrip⟩

/-- A write refused for CLASH (R34, R36): the block after it, where `u` is the state after the parity check. -/
theorem State.clashRefused_spec (u : State) (c : MasterCycle) :
    let t := (u.countClash c).completeRefused c true
    t.path = { u.path with
      cycle := some { c with phase := .completed }
      mwait := false
      mberr := true
      clashReported := u.path.clashReported || decide (u.monitor.state = .run) } ∧
    t.arb = { u.arb with award := t.arb.award } ∧ t.regions = u.regions ∧ t.noticeSet .clash = true ∧
    (u.monitor.state = .run ∧ u.path.clashReported = false →
      t.queue = (u.createRecord (refuseReport none 3 c)).queue) ∧
    (¬(u.monitor.state = .run ∧ u.path.clashReported = false) → t.queue = u.queue) := by
  dsimp only
  rw [State.completeRefused_eq]
  refine ⟨?_, ?_, ?_, u.countClash_noticeSet c, u.countClash_queue c⟩
  · rw [State.countClash_path]
  · simp
  · simp

/-- A write refused for LOCK or TRIP (R34, R35). -/
theorem State.regionRefused_spec (u : State) (r : Fin 32) (reason : Word) (c : MasterCycle) (mberr : Bool) :
    let t := (u.countRefusal r reason c).completeRefused c mberr
    t.path = { u.path with cycle := some { c with phase := .completed }, mwait := false, mberr := mberr } ∧
    t.arb = { u.arb with award := t.arb.award } ∧
    t.region r = (u.region r).refused (decide (u.monitor.state = .run)) ∧
    (∀ q, q ≠ r → t.region q = u.region q) ∧
    (u.monitor.state = .run ∧ (u.region r).refusalReported = false →
      t.queue = (u.createRecord (refuseReport (some r) reason c)).queue) ∧
    (¬(u.monitor.state = .run ∧ (u.region r).refusalReported = false) →
      t.queue = u.queue ∧ t.notices = u.notices) := by
  dsimp only
  rw [State.completeRefused_eq]
  refine ⟨?_, ?_, u.countRefusal_region r reason c, fun q hq => u.countRefusal_region_other hq reason c,
    u.countRefusal_queue r reason c⟩
  · simp
  · simp

/-- A write forwarded (R33). -/
theorem State.forward_write_eq {c : MasterCycle} (hwrite : c.write = true) (u : State) :
    u.forward c = { u with
      path := { u.path with
        cycle := some { c with phase := .forwarded }
        memCycle := some ⟨true, c.addr, c.enables, c.data, c.parity⟩ }
      arb := { u.arb with owner := some .master, award := none } } := by
  simp [State.forward, State.takePort, MasterCycle.toMemory, hwrite]

/-- Settles O43: the ways out of the grant (`execWriteGrant_cases`), and what a refusal counts and reports. -/
theorem writeGrantRefusesOrForwards : Obligations.WriteGrantRefusesOrForwards := by
  intro s c howner haward hcycle hphase hwrite
  have hcases := execWriteGrant_cases (s.grantedCycle_of_waiting howner haward hcycle hphase) hwrite
  dsimp only at hcases ⊢
  rw [← State.clashes_iff]
  have hregion : ∀ q, (s.checkParity .write c.addr c.enables c.data c.parity).region q = s.region q := by simp
  rcases hcases with ⟨hclash, hexec⟩ | ⟨r, hclash, hacting, hrefuses, hexec⟩ | ⟨hclash, hpasses, hexec⟩
  · refine ⟨_, hexec, by simp, by simp, by simp, by simp, by simp, by simp, by simp, by simp, by simp,
      fun _ => ?_, fun hc => absurd hclash hc, fun hc => absurd hclash hc⟩
    have hspec := State.clashRefused_spec (s.checkParity .write c.addr c.enables c.data c.parity) c
    simp only [State.checkParity_frame] at hspec
    exact hspec
  · refine ⟨_, hexec, by simp, by simp, by simp, by simp, by simp, by simp, by simp, by simp, by simp,
      fun hc => (nomatch hclash.symm.trans hc), fun _ q hq _ => ?_, fun _ hc => ?_⟩
    · cases Option.some.inj (hacting.symm.trans hq)
      have hspec := State.regionRefused_spec (s.checkParity .write c.addr c.enables c.data c.parity) r
        (if (s.region r).cfg.lock then 1 else 2) c ((s.region r).cfg.policy == .error)
      simp only [State.checkParity_frame, hregion] at hspec
      exact hspec
    · obtain ⟨hlock, htrip⟩ := hc r hacting
      exact (hrefuses.elim (Bool.eq_false_iff.mp hlock) (Bool.eq_false_iff.mp htrip)).elim
  · rw [State.forward_write_eq hwrite] at hexec
    refine ⟨_, hexec, by simp, by simp, by simp, by simp, by simp, by simp, by simp, by simp, by simp,
      fun hc => (nomatch hclash.symm.trans hc), fun _ r hr hc => ?_, fun _ _ => ?_⟩
    · obtain ⟨hlock, htrip⟩ := hpasses r hr
      exact (hc.elim (Bool.eq_false_iff.mp hlock) (Bool.eq_false_iff.mp htrip)).elim
    · simp

end Sys2Proof.Machine
end

section
/-! Completed master cycles (R37 to R40, R54, R55, R62, R63): the answer to the master, and what the region found
acting on the word makes of the data. -/

namespace Sys2Proof.Machine

/-! ### The answer to the master -/

theorem State.answerMaster_forwarded {s : State} {c : MasterCycle} (hcycle : s.path.cycle = some c)
    (hphase : c.phase = .forwarded) (d : Option BusData) :
    s.answerMaster d = { s with path := { s.path with
      cycle := some { c with phase := .completed }, mwait := false, readData := d } } := by
  simp only [State.answerMaster, hcycle]
  rw [if_pos hphase]

/-- A cycle withdrawn, or one waiting behind it, gets no answer (R27). -/
theorem State.answerMaster_unanswered {s : State} (h : ∀ c, s.path.cycle = some c → c.phase ≠ .forwarded)
    (d : Option BusData) : s.answerMaster d = s := by
  unfold State.answerMaster
  split
  · rfl
  · next c hc => exact if_neg (h c hc)

/-- The port after a completion whose consumers leave the Cycle Path (R37, R39). -/
theorem State.answered_path (s : State) (d : Option BusData) {u : State} (hu : u.path = (s.answerMaster d).path) :
    (∀ c, s.path.cycle = some c → c.phase = .forwarded →
      u.releasePort.path = { s.path with
        cycle := some { c with phase := .completed }, mwait := false, readData := d, memCycle := none }) ∧
    ((∀ c, s.path.cycle = some c → c.phase ≠ .forwarded) → u.releasePort.path = { s.path with memCycle := none }) := by
  have hpath : u.releasePort.path = { (s.answerMaster d).path with memCycle := none } := by
    rw [State.releasePort_eq, hu]
  refine ⟨fun c hcycle hphase => ?_, fun h => ?_⟩
  · rw [hpath, State.answerMaster_forwarded hcycle hphase]
  · rw [hpath, State.answerMaster_unanswered h]

/-! ### Where the consumers look -/

theorem State.actingRegion_congr {s u : State} (h : s.regions = u.regions) (a : Addr) :
    s.actingRegion a = u.actingRegion a := by
  unfold State.actingRegion State.lookup State.region
  rw [h]

theorem State.extentOf_congr {s u : State} (h : s.alloc = u.alloc) (r : Fin 32) : s.extentOf r = u.extentOf r := by
  rw [State.extentOf, State.extentOf, h]

theorem State.shadowIndex_of_extent {s : State} {r : Fin 32} {e : Extent} (h : s.extentOf r = some e) (a : Addr) :
    s.shadowIndex r a = some (e.first + (a.toNat - (s.region r).cfg.base.toNat)) := by
  rw [State.shadowIndex, h]
  rfl

/-! ### What a completed write does -/

theorem State.consumeWrite_of_none {s : State} {a : Addr} (h : s.actingRegion a = none) (enables : BitVec 2)
    (d : Word) : s.consumeWrite a enables d = s := by
  simp only [State.consumeWrite, h]

theorem State.consumeWrite_unshadowed {s : State} {a : Addr} {r : Fin 32} (h : s.actingRegion a = some r)
    (hcfg : (s.region r).cfg.shadowed = false) (enables : BitVec 2) (d : Word) :
    s.consumeWrite a enables d = s.integrate r a := by
  simp only [State.consumeWrite, h]
  rw [if_neg (Bool.eq_false_iff.mp hcfg)]

theorem State.consumeWrite_shadowed {s : State} {a : Addr} {r : Fin 32} (h : s.actingRegion a = some r)
    (hcfg : (s.region r).cfg.shadowed = true) (enables : BitVec 2) (d : Word) :
    s.consumeWrite a enables d = (s.shadowWrite r a enables d).integrate r a := by
  simp only [State.consumeWrite, h]
  rw [if_pos hcfg]

/-- A valid shadow word takes the merged value, which a WATCH region's detector judges (R38, R54, R68). -/
theorem State.shadowWrite_valid {s : State} {r : Fin 32} {a : Addr} {k : Nat} {old : Word}
    (hk : s.shadowIndex r a = some k) (hold : shadowGet s.shadow k = some old) (enables : BitVec 2) (d : Word) :
    s.shadowWrite r a enables d =
      if (s.region r).cfg.watch then
        (s.writeShadow k (mergeBytes enables old d)).detect r a old (mergeBytes enables old d)
      else s.writeShadow k (mergeBytes enables old d) := by
  simp only [State.shadowWrite, hk, hold]

/-- An invalid shadow word is primed by a full word only (R54). -/
theorem State.shadowWrite_primes {s : State} {r : Fin 32} {a : Addr} {k : Nat}
    (hk : s.shadowIndex r a = some k) (hold : shadowGet s.shadow k = none) (d : Word) :
    s.shadowWrite r a 3 d =
      (s.writeShadow k d).modRegion r fun x => { x with trafficPrimed := satInc x.trafficPrimed } := by
  simp only [State.shadowWrite, hk, hold]
  rfl

theorem State.shadowWrite_partial {s : State} {r : Fin 32} {a : Addr} {k : Nat} {enables : BitVec 2}
    (hk : s.shadowIndex r a = some k) (hold : shadowGet s.shadow k = none) (h : enables ≠ 3) (d : Word) :
    s.shadowWrite r a enables d = s := by
  simp only [State.shadowWrite, hk, hold]
  rw [if_neg h]

/-- A completed write leaves every other shadow word as it is (R38). -/
theorem State.shadowWrite_other {s : State} {r : Fin 32} {a : Addr} {k j : Nat} (hk : s.shadowIndex r a = some k)
    (hj : j ≠ k) (enables : BitVec 2) (d : Word) :
    shadowGet (s.shadowWrite r a enables d).shadow j = shadowGet s.shadow j := by
  have hset : ∀ w, shadowGet (shadowSet s.shadow k w) j = shadowGet s.shadow j := by
    intro w
    rw [shadowGet_shadowSet, if_neg hj]
  cases hold : shadowGet s.shadow k with
  | some old =>
    rw [State.shadowWrite_valid hk hold]
    split <;> simp [State.writeShadow, hset]
  | none =>
    by_cases hfull : enables = 3
    · rw [hfull, State.shadowWrite_primes hk hold]
      simp [State.writeShadow, hset]
    · rw [State.shadowWrite_partial hk hold hfull]

theorem State.agrees.writeShadow {s u : State} (h : s.agrees u) (k : Nat) (w : Word) : (s.writeShadow k w).agrees u :=
  h

/-- The end of the operation leaves what the consumers did as it is. -/
theorem State.agrees.released {s u : State} (h : s.agrees u) :
    s.releasePort.regions = u.regions ∧ s.releasePort.settle = u.settle ∧ s.releasePort.queue = u.queue ∧
      s.releasePort.notices = u.notices := by
  obtain ⟨hregions, hsettle, hqueue, hnotices, _, _⟩ := h
  simp [hregions, hsettle, hqueue, hnotices]

theorem execWriteCompletion_eq {s : State} {m : MemCycle} (howner : s.arb.owner = some .master)
    (hm : s.path.memCycle = some m) (hwrite : m.write = true) :
    exec .writeCompletion s =
      .next (((s.answerMaster none).consumeWrite m.addr m.enables m.data).releasePort) := by
  have hexec : exec .writeCompletion s = execWriteCompletion s := rfl
  rw [hexec]
  simp only [execWriteCompletion, hm]
  rw [if_pos ⟨howner, hwrite⟩]

/-- Settles O44: the answer, then the region's consumers on a state that agrees with the one before it. -/
theorem writeCompletionReachesTheRegion : Obligations.WriteCompletionReachesTheRegion := by
  intro s m howner hm hwrite
  have hagrees := s.answerMaster_agrees none
  have hshadow : (s.answerMaster none).shadow = s.shadow := by simp
  have hacts := State.actingRegion_congr hagrees.1 m.addr
  have hregion := fun r => hagrees.region r
  have hextent : ∀ r, (s.answerMaster none).extentOf r = s.extentOf r := State.extentOf_congr (by simp)
  obtain ⟨hanswered, hunanswered⟩ := s.answered_path none
    (u := (s.answerMaster none).consumeWrite m.addr m.enables m.data) (by simp)
  refine ⟨_, execWriteCompletion_eq howner hm hwrite, by rw [State.releasePort_eq], by rw [State.releasePort_eq],
    hanswered, hunanswered, by simp, by simp, by simp, by simp, by simp, by simp, by simp, by simp,
    fun hnone => ?_, fun r hr => ?_⟩
  · rw [State.consumeWrite_of_none (hacts.trans hnone)]
    simp
  · have hr' := hacts.trans hr
    dsimp only
    refine ⟨fun hwatch hverify => ?_, fun hcfg e he => ?_⟩
    · rw [State.consumeWrite_unshadowed hr' (by rw [hregion]; simp only [RegionConfig.shadowed, hwatch, hverify]; rfl)]
      exact ⟨by simp, (hagrees.integrate r m.addr).released⟩
    · have hk := State.shadowIndex_of_extent ((hextent r).trans he) m.addr
      rw [hregion] at hk
      rw [State.consumeWrite_shadowed hr' (by rw [hregion]; exact (RegionConfig.shadowed_iff _).mpr hcfg)]
      generalize e.first + (m.addr.toNat - (s.region r).cfg.base.toNat) = k at hk ⊢
      have hget : ∀ {w}, shadowGet s.shadow k = w → shadowGet (s.answerMaster none).shadow k = w := by
        intro w hw
        rw [hshadow, hw]
      refine ⟨fun j hj => ?_, fun old hold => ?_, fun hold => ⟨?_, fun hpart => ?_⟩⟩
      · rw [← hshadow]
        simp only [State.releasePort_frame, State.integrate_frame]
        exact State.shadowWrite_other hk hj _ _
      · rw [State.shadowWrite_valid hk (hget hold), hregion]
        refine ⟨?_, fun hwatch => ?_, fun hwatch => ?_⟩
        · split <;> simp [State.writeShadow, shadowGet_shadowSet, mergeBytes]
        · rw [if_pos hwatch]
          exact (((hagrees.writeShadow k _).detect r m.addr old _).integrate r m.addr).released
        · rw [if_neg (Bool.eq_false_iff.mp hwatch)]
          exact ((hagrees.writeShadow k _).integrate r m.addr).released
      · intro hfull
        rw [hfull, State.shadowWrite_primes hk (hget hold)]
        refine ⟨by simp [State.writeShadow, shadowGet_shadowSet], ?_⟩
        exact (((hagrees.writeShadow k m.data).modRegion r _).integrate r m.addr).released
      · rw [State.shadowWrite_partial hk (hget hold) hpart]
        exact ⟨by simpa using hold, (hagrees.integrate r m.addr).released⟩

/-! ### What a completed read does -/

/-- The data of a completed read goes on to the region's shadow (R40, R42, R55). -/
def State.handsOn (s : State) (a : Addr) (enables : BitVec 2) (d : Word) (lines : BitVec 2) (r : Fin 32) : Prop :=
  s.actingRegion a = some r ∧ ((s.region r).cfg.watch ∨ (s.region r).cfg.verify) ∧ enables = 3 ∧
    ¬(s.port.parityCheck ∧ parityError enables d lines)

theorem State.consumeRead_kept {s : State} {a : Addr} {enables : BitVec 2} {d : Word} {lines : BitVec 2}
    (h : ∀ r, ¬s.handsOn a enables d lines r) : s.consumeRead a enables d lines = s := by
  unfold State.consumeRead
  split
  · rfl
  · next r hr =>
    refine if_neg fun hc => h r ?_
    rw [RegionConfig.shadowed_iff] at hc
    exact ⟨hr, hc⟩

theorem State.consumeRead_handed {s : State} {a : Addr} {enables : BitVec 2} {d : Word} {lines : BitVec 2}
    {r : Fin 32} (h : s.handsOn a enables d lines r) : s.consumeRead a enables d lines = s.shadowRead r a d := by
  obtain ⟨hr, hcfg, hclean⟩ := h
  simp only [State.consumeRead, hr]
  exact if_pos ⟨(RegionConfig.shadowed_iff _).mpr hcfg, hclean⟩

/-- A read primes an invalid shadow word (R55). -/
theorem State.shadowRead_primes {s : State} {r : Fin 32} {a : Addr} {k : Nat} (hk : s.shadowIndex r a = some k)
    (hheld : shadowGet s.shadow k = none) (d : Word) :
    s.shadowRead r a d =
      (s.writeShadow k d).modRegion r fun x => { x with trafficPrimed := satInc x.trafficPrimed } := by
  simp only [State.shadowRead, hk, hheld]

/-- A valid word is left as it is outside VERIFY, and where the data agrees with it (R62). -/
theorem State.shadowRead_agrees {s : State} {r : Fin 32} {a : Addr} {k : Nat} {held d : Word}
    (hk : s.shadowIndex r a = some k) (hheld : shadowGet s.shadow k = some held)
    (h : (s.region r).cfg.verify = false ∨ d = held) : s.shadowRead r a d = s := by
  simp only [State.shadowRead, hk, hheld]
  rcases h with hverify | heq
  · exact if_neg (Bool.eq_false_iff.mp hverify)
  · rw [State.verifyRead, if_pos heq]
    split <;> rfl

/-- The block once a diverging word is resynchronised and counted, before its record (R63, R80). -/
def State.resynced (s : State) (r : Fin 32) (a : Addr) (k : Nat) (d : Word) : State :=
  let synced := (s.writeShadow k d).modRegion r fun x => { x with divergences := satInc x.divergences }
  if (s.region r).cfg.watch then synced.dropEntry a else synced

theorem State.shadowRead_diverges {s : State} {r : Fin 32} {a : Addr} {k : Nat} {held d : Word}
    (hk : s.shadowIndex r a = some k) (hheld : shadowGet s.shadow k = some held)
    (hverify : (s.region r).cfg.verify = true) (hne : d ≠ held) :
    s.shadowRead r a d = (s.resynced r a k d).produce
      { kind := .diverge, direction := .read, region := some r, addr := some a, valueA := held, valueB := d } := by
  simp only [State.shadowRead, hk, hheld]
  rw [if_pos hverify, State.verifyRead, if_neg hne]
  rfl

theorem State.resynced_frame (s : State) (r : Fin 32) (a : Addr) (k : Nat) (d : Word) :
    (s.resynced r a k d).queue = s.queue ∧ (s.resynced r a k d).notices = s.notices ∧
      (s.resynced r a k d).monitor = s.monitor ∧ (s.resynced r a k d).time = s.time ∧
      (s.resynced r a k d).shadow = shadowSet s.shadow k d ∧
      (s.resynced r a k d).settle =
        (if (s.region r).cfg.watch then s.settle.filter (fun e => e.addr ≠ a) else s.settle) ∧
      (s.resynced r a k d).region r = { s.region r with divergences := satInc (s.region r).divergences } ∧
      ∀ q, q ≠ r → (s.resynced r a k d).region q = s.region q := by
  unfold State.resynced
  dsimp only
  split
  · next hwatch =>
    refine ⟨by simp, by simp, by simp, by simp, by simp [State.writeShadow], ?_, by simp, fun q hq => by simp [hq.symm]⟩
    simp
  · next hwatch =>
    refine ⟨by simp, by simp, by simp, by simp, by simp [State.writeShadow], ?_, by simp, fun q hq => by simp [hq.symm]⟩
    simp

theorem State.shadowRead_other {s : State} {r : Fin 32} {a : Addr} {k : Nat} (hk : s.shadowIndex r a = some k)
    (d : Word) : (∀ j, j ≠ k → shadowGet (s.shadowRead r a d).shadow j = shadowGet s.shadow j) ∧
      ∀ q, q ≠ r → (s.shadowRead r a d).region q = s.region q := by
  have hset : ∀ j, j ≠ k → shadowGet (shadowSet s.shadow k d) j = shadowGet s.shadow j := by
    intro j hj
    rw [shadowGet_shadowSet, if_neg hj]
  cases hheld : shadowGet s.shadow k with
  | none =>
    rw [State.shadowRead_primes hk hheld]
    exact ⟨fun j hj => by simp [State.writeShadow, hset j hj], fun q hq => by simp [hq.symm]⟩
  | some held =>
    by_cases hkept : (s.region r).cfg.verify = false ∨ d = held
    · rw [State.shadowRead_agrees hk hheld hkept]
      exact ⟨fun _ _ => rfl, fun _ _ => rfl⟩
    · rw [not_or, Bool.not_eq_false] at hkept
      obtain ⟨_, _, _, _, hshadow, _, _, hregions⟩ := s.resynced_frame r a k d
      rw [State.shadowRead_diverges hk hheld hkept.1 hkept.2]
      refine ⟨fun j hj => by simp [hshadow, hset j hj], fun q hq => ?_⟩
      rw [← hregions q hq]
      simp

theorem State.handsOn_congr {s u : State} (hregions : s.regions = u.regions) (hport : s.port = u.port) {a : Addr}
    {enables : BitVec 2} {d : Word} {lines : BitVec 2} {r : Fin 32} :
    s.handsOn a enables d lines r ↔ u.handsOn a enables d lines r := by
  unfold State.handsOn State.region
  rw [State.actingRegion_congr hregions, hregions, hport]

/-- A parity check rests on the regions, the queue, the notices, the monitor, the Timebase and the port alone. -/
theorem State.agrees.checkParity {s u : State} (h : s.agrees u) (hport : s.port = u.port) (dir : Direction)
    (a : Addr) (enables : BitVec 2) (d : Word) (lines : BitVec 2) :
    (s.checkParity dir a enables d lines).agrees (u.checkParity dir a enables d lines) := by
  obtain ⟨hregions, _, _, _, hmonitor, _⟩ := id h
  unfold State.checkParity
  rw [hport, hmonitor, State.actingRegion_congr hregions a]
  split
  · exact (h.setNotice _).produce _
  · exact h

theorem State.checkParity_of_clean {s : State} {d : Word} {enables lines : BitVec 2}
    (h : ¬(s.port.parityCheck ∧ parityError enables d lines)) (dir : Direction) (a : Addr) :
    s.checkParity dir a enables d lines = s :=
  if_neg fun hc => h ⟨hc.1, hc.2.2⟩

theorem execReadGrant_forwards {s : State} {c : MasterCycle} (hgranted : s.grantedCycle = some c)
    (hread : c.write = false) : exec .readGrant s = .next (s.forward c) := by
  have hexec : exec .readGrant s = execReadGrant s := rfl
  rw [hexec]
  simp only [execReadGrant, hgranted]
  rw [if_neg (Bool.eq_false_iff.mp hread)]

theorem State.forward_read_eq {c : MasterCycle} (hread : c.write = false) (u : State) :
    u.forward c = { u with
      path := { u.path with
        cycle := some { c with phase := .forwarded }
        memCycle := some ⟨false, c.addr, c.enables, 0, 0⟩ }
      arb := { u.arb with owner := some .master, award := none } } := by
  simp [State.forward, State.takePort, MasterCycle.toMemory, hread]

theorem execReadCompletion_eq {s : State} {m : MemCycle} (howner : s.arb.owner = some .master)
    (hm : s.path.memCycle = some m) (hread : m.write = false) (data : Word) (parity : BitVec 2) :
    exec (.readCompletion data parity) s =
      .next ((((s.answerMaster (some ⟨data, parity⟩)).checkParity .read m.addr m.enables data parity).consumeRead
        m.addr m.enables data parity).releasePort) := by
  have hexec : exec (.readCompletion data parity) s = execReadCompletion data parity s := rfl
  rw [hexec]
  simp only [execReadCompletion, hm]
  rw [if_pos ⟨howner, hread⟩]

/-- Settles O45: a read is forwarded always; its completion answers the master, checks parity and hands clean full
words on to the shadow. -/
theorem masterReadReturnsAndVerifies : Obligations.MasterReadReturnsAndVerifies := by
  refine ⟨fun s c howner haward hcycle hphase hread => ?_, fun s m data parity howner hm hread => ?_⟩
  · rw [execReadGrant_forwards (s.grantedCycle_of_waiting howner haward hcycle hphase) hread,
      State.forward_read_eq hread]
  · have hagrees := s.answerMaster_agrees (some ⟨data, parity⟩)
    have hport : (s.answerMaster (some ⟨data, parity⟩)).port = s.port := by simp
    have hshadow : (s.answerMaster (some ⟨data, parity⟩)).shadow = s.shadow := by simp
    have hchecked := hagrees.checkParity hport .read m.addr m.enables data parity
    have hacts := State.actingRegion_congr hagrees.1 m.addr
    have hregion := fun r => hagrees.region r
    have hextent : ∀ r, (s.answerMaster (some ⟨data, parity⟩)).extentOf r = s.extentOf r :=
      State.extentOf_congr (by simp)
    obtain ⟨hanswered, hunanswered⟩ := s.answered_path (some ⟨data, parity⟩)
      (u := ((s.answerMaster (some ⟨data, parity⟩)).checkParity .read m.addr m.enables data parity).consumeRead
        m.addr m.enables data parity) (by simp)
    refine ⟨_, execReadCompletion_eq howner hm hread data parity, by rw [State.releasePort_eq],
      by rw [State.releasePort_eq], hanswered, hunanswered, by simp, by simp, by simp, by simp, by simp, by simp,
      by simp, by simp, fun hunhanded => ?_, fun r e hhanded he => ?_⟩
    · rw [State.consumeRead_kept fun r hr => hunhanded r ((State.handsOn_congr (by simp) (by simp)).mp hr)]
      obtain ⟨hregions, hsettle, hqueue, hnotices⟩ := hchecked.released
      exact ⟨by simp, by simp, by simp, hqueue, hnotices⟩
    · obtain ⟨_, _, _, hclean⟩ := id hhanded
      rw [State.checkParity_of_clean (by rw [hport]; exact hclean),
        State.consumeRead_handed ((State.handsOn_congr hagrees.1 hport).mpr hhanded)]
      have hk := State.shadowIndex_of_extent ((hextent r).trans he) m.addr
      rw [hregion] at hk
      dsimp only
      generalize e.first + (m.addr.toNat - (s.region r).cfg.base.toNat) = k at hk ⊢
      have hget : ∀ {w}, shadowGet s.shadow k = w → shadowGet (s.answerMaster (some ⟨data, parity⟩)).shadow k = w := by
        intro w hw
        rw [hshadow, hw]
      obtain ⟨hwords, hregions⟩ := State.shadowRead_other hk data
      refine ⟨fun j hj => ?_, fun q hq => ?_, fun hnone => ?_, fun held hheld hkept => ?_,
        fun held hheld hverify hne => ?_⟩
      · rw [← hshadow, ← hwords j hj]
        simp
      · rw [← hregion, ← hregions q hq]
        simp
      · rw [State.shadowRead_primes hk (hget hnone)]
        refine ⟨by simp [State.writeShadow, shadowGet_shadowSet], ?_, by simp, by simp, by simp⟩
        rw [← hregion]
        simp
      · rw [State.shadowRead_agrees hk (hget hheld) (by rw [hregion]; exact hkept)]
        simp
      · rw [State.shadowRead_diverges hk (hget hheld) (by rw [hregion]; exact hverify) hne]
        obtain ⟨hqueue, hnotices, hmonitor, htime, hshadow', hsettle, hself, _⟩ :=
          (s.answerMaster (some ⟨data, parity⟩)).resynced_frame r m.addr k data
        refine ⟨by simp [hshadow', shadowGet_shadowSet], ?_, ?_, fun hidle => ?_, fun hrun => ?_⟩
        · rw [← hregion, ← hself]
          simp
        · rw [← hregion]
          simp [hsettle]
        · rw [State.produce_of_not_run (by rw [hmonitor]; simpa using hidle)]
          simp [hqueue, hnotices]
        · have hcreated := State.produce_queue_of_run
            (s := (s.answerMaster (some ⟨data, parity⟩)).resynced r m.addr k data) (by rw [hmonitor]; simpa using hrun)
          simp only [State.releasePort_frame, hcreated]
          exact State.createRecord_queue_congr (by simp [hqueue]) (by simp [htime]) _

end Sys2Proof.Machine
end

section
/-! The Prime Engine's grant and its read's completion (R57 to R60). -/

namespace Sys2Proof.Machine

/-! ### The invalid words of an extent -/

/-- Word `k` of the extent `e` of region `r` is invalid (R48). -/
def State.invalidAt (s : State) (r : Fin 32) (e : Extent) (k : Nat) : Prop :=
  k < (s.region r).cfg.size ∧ shadowGet s.shadow (e.first + k) = none

theorem State.firstInvalid_eq {s : State} {r : Fin 32} {e : Extent} (he : s.extentOf r = some e) (start : Nat) :
    s.firstInvalid r start = (List.range' start ((s.region r).cfg.size - start)).find? fun k =>
      (shadowGet s.shadow (e.first + k)).isNone := by
  rw [State.firstInvalid, he]

theorem State.firstInvalid_of_first {s : State} {r : Fin 32} {e : Extent} (he : s.extentOf r = some e)
    {start k : Nat} (hstart : start ≤ k) (hk : s.invalidAt r e k)
    (hfirst : ∀ j, start ≤ j → j < k → ¬s.invalidAt r e j) : s.firstInvalid r start = some k := by
  obtain ⟨hsize, hnone⟩ := hk
  rw [State.firstInvalid_eq he, List.find?_range'_eq_some]
  refine ⟨by rw [hnone]; rfl, List.mem_range'_1.mpr ⟨hstart, by omega⟩, fun j hj hjk => ?_⟩
  have hvalid : ¬shadowGet s.shadow (e.first + j) = none := fun hc => hfirst j hj hjk ⟨Nat.lt_trans hjk hsize, hc⟩
  rw [Option.isNone_eq_false_iff.mpr (Option.isSome_iff_ne_none.mpr hvalid)]
  rfl

theorem State.firstInvalid_eq_none_iff {s : State} {r : Fin 32} {e : Extent} (he : s.extentOf r = some e)
    (start : Nat) : s.firstInvalid r start = none ↔ ∀ k, start ≤ k → ¬s.invalidAt r e k := by
  rw [State.firstInvalid_eq he, List.find?_eq_none]
  constructor
  · intro h k hk hinvalid
    obtain ⟨hsize, hnone⟩ := hinvalid
    exact h k (List.mem_range'_1.mpr ⟨hk, by omega⟩) (by rw [hnone]; rfl)
  · intro h k hk hnone
    obtain ⟨hstart, hend⟩ := List.mem_range'_1.mp hk
    exact h k hstart ⟨by omega, Option.isNone_iff_eq_none.mp hnone⟩

/-! ### What the engine reads -/

theorem State.primeTarget_of_first {s : State} {r : Fin 32} {k : Nat}
    (h : s.firstInvalid r (s.region r).primeCursor = some k) : s.primeTarget r = some (k, k + 1) := by
  rw [State.primeTarget, h]

theorem State.primeTarget_of_rescan {s : State} {r : Fin 32} {k : Nat}
    (h : s.firstInvalid r (s.region r).primeCursor = none) (hk : s.firstInvalid r 0 = some k) :
    s.primeTarget r = some (k, (s.region r).cfg.size) := by
  rw [State.primeTarget, h, hk]
  rfl

theorem State.primeTarget_of_none {s : State} {r : Fin 32}
    (h : s.firstInvalid r (s.region r).primeCursor = none) (h0 : s.firstInvalid r 0 = none) :
    s.primeTarget r = none := by
  rw [State.primeTarget, h, h0]
  rfl

theorem execPrimeGrant_reads {s : State} {r : Fin 32} {k cursor : Nat} (howner : s.arb.owner = none)
    (haward : s.arb.award = some .prime) (hserved : s.prime.served = some r)
    (htarget : s.primeTarget r = some (k, cursor)) : exec .primeGrant s = .next (s.issuePrime r k cursor) := by
  have hexec : exec .primeGrant s = execPrimeGrant s := rfl
  rw [hexec, execPrimeGrant, if_pos ⟨howner, haward⟩]
  simp only [hserved, htarget]

/-- The block at a prime grant that finds nothing to read (R28, R59). -/
def State.primeGranted (s : State) : State :=
  { s with arb := { s.arb with award := none, lastBackground := .prime } }

theorem execPrimeGrant_completes {s : State} {r : Fin 32} (howner : s.arb.owner = none)
    (haward : s.arb.award = some .prime) (hserved : s.prime.served = some r) (htarget : s.primeTarget r = none) :
    exec .primeGrant s = .next ((s.primeGranted.completePriming r).primeStep).arbitrate := by
  have hexec : exec .primeGrant s = execPrimeGrant s := rfl
  rw [hexec, execPrimeGrant, if_pos ⟨howner, haward⟩]
  simp only [hserved, htarget]
  rfl

theorem State.issuePrime_eq (s : State) (r : Fin 32) (k cursor : Nat) (hserved : s.prime.served = some r) :
    s.issuePrime r k cursor = { s with
      regions := s.regions.set r { s.region r with primeCursor := cursor }
      path := { s.path with memCycle := some ⟨false, (s.region r).cfg.base + BitVec.ofNat 20 k, 3, 0, 0⟩ }
      arb := { s.arb with owner := some .prime, award := none, lastBackground := .prime }
      prime := {
        served := some r
        claim := false
        read := some ⟨r, (s.region r).cfg.base + BitVec.ofNat 20 k, false⟩ } } := by
  rw [← hserved]
  rfl

/-! ### What the engine's steps keep -/

/-- Region `r` is LIVE and PRIMED is set; the record is still to come (R59). -/
def State.primingDone (s : State) (r : Fin 32) : State :=
  (s.modRegion r fun x => { x with state := .live, primeCursor := x.cfg.size }).setNotice .primed

/-- The report of a completed priming (R59). -/
def State.primedReport (s : State) (r : Fin 32) : Report where
  kind := .primed
  region := some r
  valueA := (s.region r).enginePrimed
  valueB := (s.region r).trafficPrimed

theorem State.completePriming_eq (s : State) (r : Fin 32) :
    s.completePriming r = (s.primingDone r).produce (s.primedReport r) := rfl

theorem State.completePriming_noticeSet (s : State) (r : Fin 32) : (s.completePriming r).noticeSet .primed = true :=
  State.produce_noticeSet (State.setNotice_noticeSet _ .primed) _

theorem State.completePriming_keeps_noticeSet {s : State} {n : Notice} (h : s.noticeSet n = true) (r : Fin 32) :
    (s.completePriming r).noticeSet n = true :=
  State.produce_noticeSet (State.noticeSet_setNotice (s := s.modRegion r _) h .primed) _

theorem State.completePriming_region (s : State) (r q : Fin 32) :
    (s.completePriming r).region q =
      (s.modRegion r fun x => { x with state := .live, primeCursor := x.cfg.size }).region q := by
  simp [State.completePriming]

/-- The record of a completed priming (R59). -/
theorem State.completePriming_queue (s : State) (r : Fin 32) :
    (s.monitor.state ≠ .run → (s.completePriming r).queue = s.queue) ∧
      (s.monitor.state = .run → (s.completePriming r).queue = (s.createRecord (s.primedReport r)).queue) := by
  rw [State.completePriming_eq]
  refine ⟨fun hidle => ?_, fun hrun => ?_⟩
  · rw [State.produce_of_not_run (s := s.primingDone r) hidle]
    rfl
  · rw [State.produce_queue_of_run (s := s.primingDone r) hrun]
    exact State.createRecord_queue_congr (s := s.primingDone r) (u := s) rfl rfl _

theorem State.completePriming_prime (s : State) (r : Fin 32) : (s.completePriming r).prime = s.prime := by
  simp [State.completePriming]

theorem primeSteps_noticeSet (n : Nat) {s : State} {k : Notice} (h : s.noticeSet k = true) :
    (primeSteps n s).noticeSet k = true := by
  induction n generalizing s with
  | zero => exact h
  | succ n ih =>
    unfold primeSteps
    split
    · exact h
    · dsimp only
      split
      · exact h
      · split
        · exact h
        · exact ih (State.completePriming_keeps_noticeSet (by exact h) _)

theorem primeSteps_read (n : Nat) (s : State) : (primeSteps n s).prime.read = s.prime.read := by
  induction n generalizing s with
  | zero => rfl
  | succ n ih =>
    unfold primeSteps
    split
    · rfl
    · dsimp only
      split
      · rfl
      · split
        · rfl
        · rw [ih, State.completePriming_prime]
          rfl

theorem State.modRegion_enginePrimed (s : State) (r q : Fin 32) {f : Region → Region}
    (hf : ∀ x, (f x).enginePrimed = x.enginePrimed) :
    ((s.modRegion r f).region q).enginePrimed = (s.region q).enginePrimed := by
  rw [State.region_modRegion]
  split
  · next hrq => rw [hf, hrq]
  · rfl

theorem primeSteps_enginePrimed (n : Nat) (s : State) (q : Fin 32) :
    ((primeSteps n s).region q).enginePrimed = (s.region q).enginePrimed := by
  induction n generalizing s with
  | zero => rfl
  | succ n ih =>
    unfold primeSteps
    split
    · rfl
    · next r _ =>
      have hrescanned := State.modRegion_enginePrimed { s with prime := { s.prime with served := some r } } r q
        (f := fun x => { x with primeCursor := x.cfg.size }) fun _ => rfl
      dsimp only
      split
      · rfl
      · split
        · exact hrescanned
        · rw [ih, State.completePriming_region]
          exact (State.modRegion_enginePrimed _ r q (f := fun x => { x with state := .live, primeCursor := x.cfg.size })
            fun _ => rfl).trans hrescanned

/-! ### A step of the engine for the only region in PRIMING -/

/-- With an invalid word left the engine claims for the region (R57). -/
theorem primeSteps_claiming {s : State} {r : Fin 32} {e : Extent} (hlowest : s.lowestPriming = some r)
    (he : s.extentOf r = some e) {j : Nat} (hj : s.invalidAt r e j) (n : Nat) :
    ((primeSteps (n + 1) s).region r).state = (s.region r).state ∧
      (primeSteps (n + 1) s).prime = { s.prime with served := some r, claim := true } ∧
      (primeSteps (n + 1) s).queue = s.queue ∧ (primeSteps (n + 1) s).notices = s.notices := by
  cases hfirst : s.firstInvalid r (s.region r).primeCursor with
  | some k =>
    rw [primeSteps_claims n hlowest hfirst]
    exact ⟨rfl, rfl, rfl, rfl⟩
  | none =>
    cases hrescan : s.firstInvalid r 0 with
    | none => exact absurd hj ((State.firstInvalid_eq_none_iff he 0).mp hrescan j (Nat.zero_le j))
    | some k =>
      simp only [primeSteps, hlowest, hfirst, hrescan]
      refine ⟨?_, rfl, rfl, rfl⟩
      simp

/-- The engine serves region `r` and has found nothing from its cursor on (R57, R58). -/
def State.rescanned (s : State) (r : Fin 32) : State :=
  ({ s with prime := { s.prime with served := some r } } : State).modRegion r
    fun x => { x with primeCursor := x.cfg.size }

theorem State.completePriming_lowestPriming {s : State} {r : Fin 32}
    (hunique : ∀ i, i ≠ r → (s.region i).state ≠ .priming) : (s.completePriming r).lowestPriming = none := by
  rw [State.lowestPriming_eq_none_iff]
  intro q
  rw [State.completePriming_region, State.region_modRegion]
  split
  · exact nofun
  · next hq => exact hunique q (Ne.symm hq)

/-- With none left the region completes priming, and the engine serves none (R57, R59). -/
theorem primeSteps_completed {s : State} {r : Fin 32} {e : Extent} (hlowest : s.lowestPriming = some r)
    (he : s.extentOf r = some e) (hvalid : ∀ j, ¬s.invalidAt r e j)
    (hunique : ∀ i, i ≠ r → (s.region i).state ≠ .priming) (n : Nat) :
    primeSteps (n + 1) s = { (s.rescanned r).completePriming r with
      prime := { s.prime with served := none, claim := false } } := by
  have hnone : ∀ start, s.firstInvalid r start = none := fun start =>
    (State.firstInvalid_eq_none_iff he start).mpr fun j _ => hvalid j
  have hstep : primeSteps (n + 1) s = primeSteps n ((s.rescanned r).completePriming r) := by
    simp only [primeSteps, hlowest, hnone]
    rfl
  have hothers : ∀ i, i ≠ r → ((s.rescanned r).region i).state ≠ .priming := by
    intro i hi
    rw [State.rescanned, State.region_modRegion, if_neg (Ne.symm hi)]
    exact hunique i hi
  rw [hstep, primeSteps_none n (State.completePriming_lowestPriming hothers), State.completePriming_prime]
  rfl

theorem State.completePriming_region_self (s : State) (r : Fin 32) :
    (s.completePriming r).region r =
      { s.region r with state := .live, primeCursor := (s.region r).cfg.size } := by
  rw [State.completePriming_region, State.region_modRegion, if_pos rfl]

theorem State.completePriming_region_other (s : State) {r q : Fin 32} (h : q ≠ r) :
    (s.completePriming r).region q = s.region q := by
  rw [State.completePriming_region, State.region_modRegion, if_neg (Ne.symm h)]

theorem State.rescanned_region (s : State) (r : Fin 32) :
    (s.rescanned r).region r = { s.region r with primeCursor := (s.region r).cfg.size } := by
  rw [State.rescanned, State.region_modRegion, if_pos rfl]
  rfl

/-- With no region in PRIMING and no read in flight the engine rests (R56). -/
theorem State.primeStep_idle {s : State} (hread : s.prime.read = none) (h : s.lowestPriming = none) :
    s.primeStep = { s with prime := { served := none, read := none, claim := false } } := by
  rw [State.primeStep_of_none hread, primeSteps_none 33 h]
  simp [hread]

/-! ### Nothing left to read at the grant -/

/-- What the completion of a region at the grant leaves, whatever the engine does next (R59). -/
theorem State.primeGranted_spec {s : State} (r : Fin 32) (hread : s.prime.read = none) :
    let t := ((s.primeGranted.completePriming r).primeStep).arbitrate
    t.region r = { s.region r with state := .live, primeCursor := (s.region r).cfg.size } ∧
      t.noticeSet .primed = true ∧ t.path = s.path ∧ t.arb.owner = s.arb.owner ∧ t.arb.lastBackground = .prime := by
  have hself := s.primeGranted.completePriming_region_self r
  have hread' : (s.primeGranted.completePriming r).prime.read = none := by
    rw [State.completePriming_prime]
    exact hread
  dsimp only
  rw [State.arbitrate_eq]
  refine ⟨?_, ?_, by simp [State.primeGranted], by simp [State.primeGranted], by simp [State.primeGranted]⟩
  · obtain ⟨_, hkept⟩ := State.primeStep_primedOnly (s.primeGranted.completePriming r) r
    exact (hkept (by rw [hself]; exact nofun)).trans hself
  · rw [State.primeStep_of_none hread']
    exact primeSteps_noticeSet 33 (s.primeGranted.completePriming_noticeSet r)

/-- The same where no other region is in PRIMING (R57, R59). -/
theorem State.primeGranted_only {s : State} {r : Fin 32} (hread : s.prime.read = none)
    (hunique : ∀ i, i ≠ r → (s.region i).state ≠ .priming) :
    let t := ((s.primeGranted.completePriming r).primeStep).arbitrate
    (∀ i, i ≠ r → t.region i = s.region i) ∧ t.prime = { served := none, read := none, claim := false } ∧
      (s.monitor.state ≠ .run → t.queue = s.queue) ∧
      (s.monitor.state = .run → t.queue = (s.createRecord (s.primedReport r)).queue) := by
  have hread' : (s.primeGranted.completePriming r).prime.read = none := by
    rw [State.completePriming_prime]
    exact hread
  have hstep : (s.primeGranted.completePriming r).primeStep = { s.primeGranted.completePriming r with
      prime := { served := none, read := none, claim := false } } :=
    State.primeStep_idle hread' (State.completePriming_lowestPriming (s := s.primeGranted) hunique)
  obtain ⟨hidle, hrun⟩ := s.primeGranted.completePriming_queue r
  dsimp only
  rw [hstep, State.arbitrate_eq]
  refine ⟨fun i hi => s.primeGranted.completePriming_region_other hi, rfl, hidle, fun h => (hrun h).trans ?_⟩
  exact State.createRecord_queue_congr (s := s.primeGranted) (u := s) rfl rfl _

/-! ### The read's completion -/

/-- A prime read's data is taken (R60). -/
def State.takes (s : State) (p : PrimeRead) (k : Nat) : Prop :=
  p.cancelled = false ∧ (s.region p.region).state = .priming ∧ shadowGet s.shadow k = none

theorem State.takePrime_taken {s : State} {p : PrimeRead} {k : Nat} (hk : s.shadowIndex p.region p.addr = some k)
    (h : s.takes p k) (d : Word) : s.takePrime p d =
      (s.writeShadow k d).modRegion p.region fun x => { x with enginePrimed := satInc x.enginePrimed } := by
  obtain ⟨hcancelled, hpriming, hnone⟩ := h
  rw [State.takePrime, if_pos ⟨hcancelled, hpriming⟩]
  simp only [hk, hnone]

theorem State.takePrime_discarded {s : State} {p : PrimeRead} {k : Nat} (hk : s.shadowIndex p.region p.addr = some k)
    (h : ¬s.takes p k) (d : Word) : s.takePrime p d = s := by
  unfold State.takePrime
  split
  · next hopen =>
    simp only [hk]
    split
    · rfl
    · next hnone => exact absurd ⟨hopen.1, hopen.2, hnone⟩ h
  · rfl

theorem State.takePrime_of_left {s : State} {p : PrimeRead} (h : (s.region p.region).state ≠ .priming) (d : Word) :
    s.takePrime p d = s :=
  if_neg fun hc => h hc.2

/-- The block once a prime read's data is taken or discarded, before the engine steps (R60). -/
def State.primeTaken (s : State) (p : PrimeRead) (m : MemCycle) (data : Word) (parity : BitVec 2) : State :=
  let taken := (s.checkParity .read m.addr m.enables data parity).takePrime p data
  { taken with prime := { taken.prime with read := none } }

theorem execPrimeReadCompletion_eq {s : State} {p : PrimeRead} {m : MemCycle} (hread : s.prime.read = some p)
    (hm : s.path.memCycle = some m) (howner : s.arb.owner = some .prime) (data : Word) (parity : BitVec 2) :
    exec (.primeReadCompletion data parity) s = .next (s.primeTaken p m data parity).primeStep.releasePort := by
  have hexec : exec (.primeReadCompletion data parity) s = execPrimeReadCompletion data parity s := rfl
  rw [hexec]
  simp only [execPrimeReadCompletion, hread, hm]
  rw [if_pos howner]
  rfl

/-- What the data changes: the regions' counts and the shadow alone, beside the parity check. -/
theorem State.primeTaken_frame (s : State) (p : PrimeRead) (m : MemCycle) (data : Word) (parity : BitVec 2) :
    let w := s.primeTaken p m data parity
    let u := s.checkParity .read m.addr m.enables data parity
    w.prime.read = none ∧ w.path = s.path ∧ w.settle = s.settle ∧ w.drain = s.drain ∧ w.monitor = s.monitor ∧
      w.port = s.port ∧ w.alloc = s.alloc ∧ w.time = s.time ∧ w.queue = u.queue ∧ w.notices = u.notices := by
  simp [State.primeTaken]

theorem State.primeTaken_layout (s : State) (p : PrimeRead) (m : MemCycle) (data : Word) (parity : BitVec 2)
    (q : Fin 32) : ((s.primeTaken p m data parity).region q).state = (s.region q).state ∧
      ((s.primeTaken p m data parity).region q).cfg = (s.region q).cfg := by
  simp [State.primeTaken]

theorem State.shadowIndex_congr {s u : State} (halloc : s.alloc = u.alloc) (hregions : s.regions = u.regions)
    (r : Fin 32) (a : Addr) : s.shadowIndex r a = u.shadowIndex r a := by
  unfold State.shadowIndex State.region
  rw [State.extentOf_congr halloc, hregions]

theorem State.takes_congr {s u : State} (hregions : s.regions = u.regions) (hshadow : s.shadow = u.shadow)
    (p : PrimeRead) (k : Nat) : s.takes p k ↔ u.takes p k := by
  unfold State.takes State.region
  rw [hregions, hshadow]

/-- A word taken (R60): it is valid, and the region's engine count grows. -/
theorem State.primeTaken_taken {s : State} {p : PrimeRead} {k : Nat} (hk : s.shadowIndex p.region p.addr = some k)
    (h : s.takes p k) (m : MemCycle) (data : Word) (parity : BitVec 2) :
    (s.primeTaken p m data parity).shadow = shadowSet s.shadow k data ∧
      (s.primeTaken p m data parity).region p.region =
        { s.region p.region with enginePrimed := satInc (s.region p.region).enginePrimed } ∧
      ∀ q, q ≠ p.region → (s.primeTaken p m data parity).region q = s.region q := by
  have hindex := (State.shadowIndex_congr (s := s.checkParity .read m.addr m.enables data parity)
    (by simp) (by simp) p.region p.addr).trans hk
  have htakes := (State.takes_congr (s := s.checkParity .read m.addr m.enables data parity)
    (by simp) (by simp) p k).mpr h
  rw [State.primeTaken, State.takePrime_taken hindex htakes]
  refine ⟨by simp [State.writeShadow], by simp, fun q hq => ?_⟩
  simp [hq.symm]

/-- A word discarded (R60). -/
theorem State.primeTaken_discarded {s : State} {p : PrimeRead} {k : Nat}
    (hk : s.shadowIndex p.region p.addr = some k) (h : ¬s.takes p k) (m : MemCycle) (data : Word)
    (parity : BitVec 2) :
    (s.primeTaken p m data parity).shadow = s.shadow ∧ (s.primeTaken p m data parity).regions = s.regions := by
  have hindex := (State.shadowIndex_congr (s := s.checkParity .read m.addr m.enables data parity)
    (by simp) (by simp) p.region p.addr).trans hk
  have htakes := (State.takes_congr (s := s.checkParity .read m.addr m.enables data parity)
    (by simp) (by simp) p k).not.mpr h
  rw [State.primeTaken, State.takePrime_discarded hindex htakes]
  simp

/-- Only the read's own region can change, and of it only the engine's count. -/
theorem State.primeTaken_region {s : State} {p : PrimeRead} {k : Nat} (hk : s.shadowIndex p.region p.addr = some k)
    (m : MemCycle) (data : Word) (parity : BitVec 2) :
    ((s.primeTaken p m data parity).region p.region).trafficPrimed = (s.region p.region).trafficPrimed ∧
      ∀ q, q ≠ p.region → (s.primeTaken p m data parity).region q = s.region q := by
  by_cases h : s.takes p k
  · obtain ⟨_, hself, hother⟩ := State.primeTaken_taken hk h m data parity
    exact ⟨by rw [hself], hother⟩
  · obtain ⟨_, hregions⟩ := State.primeTaken_discarded hk h m data parity
    unfold State.region
    rw [hregions]
    exact ⟨rfl, fun _ _ => rfl⟩

/-! ### The engine's step after a read -/

theorem State.primeStep_claiming {w : State} {r : Fin 32} {e : Extent} (hread : w.prime.read = none)
    (hlowest : w.lowestPriming = some r) (he : w.extentOf r = some e) {j : Nat} (hj : w.invalidAt r e j) :
    (w.primeStep.region r).state = .priming ∧
      w.primeStep.prime = { served := some r, read := none, claim := true } ∧
      w.primeStep.queue = w.queue ∧ w.primeStep.notices = w.notices := by
  obtain ⟨hstate, hprime, hqueue, hnotices⟩ := primeSteps_claiming hlowest he hj 32
  rw [State.primeStep_of_none hread]
  refine ⟨hstate.trans (State.priming_of_lowestPriming hlowest), ?_, hqueue, hnotices⟩
  simp [hprime, hread]

theorem State.primeStep_completed {w : State} {r : Fin 32} {e : Extent} (hread : w.prime.read = none)
    (hlowest : w.lowestPriming = some r) (he : w.extentOf r = some e) (hvalid : ∀ j, ¬w.invalidAt r e j)
    (hunique : ∀ i, i ≠ r → (w.region i).state ≠ .priming) :
    (w.primeStep.region r).state = .live ∧ (w.primeStep.region r).primeCursor = (w.region r).cfg.size ∧
      w.primeStep.prime = { served := none, read := none, claim := false } ∧
      w.primeStep.noticeSet .primed = true ∧ (w.monitor.state ≠ .run → w.primeStep.queue = w.queue) ∧
      (w.monitor.state = .run → w.primeStep.queue = (w.createRecord (w.primedReport r)).queue) := by
  have hself := (w.rescanned r).completePriming_region_self r
  rw [State.rescanned_region] at hself
  obtain ⟨hidle, hrun⟩ := (w.rescanned r).completePriming_queue r
  have hnotice := (w.rescanned r).completePriming_noticeSet r
  rw [State.primeStep_of_none hread, primeSteps_completed hlowest he hvalid hunique 32]
  refine ⟨congrArg Region.state hself, congrArg Region.primeCursor hself, by simp [hread], hnotice, hidle,
    fun h => (hrun h).trans ?_⟩
  have hreport : (w.rescanned r).primedReport r = w.primedReport r := by
    rw [State.primedReport, State.rescanned_region]
    rfl
  rw [hreport]
  exact State.createRecord_queue_congr (s := w.rescanned r) (u := w) rfl rfl _

/-- The parity check of a read sets its notice, and the engine's step leaves it set (R42, R43). -/
theorem State.primeTaken_parity {s : State} {m : MemCycle} {data : Word} {parity : BitVec 2}
    (h : s.port.parityCheck = true ∧ s.monitor.state ≠ .standby ∧ parityError m.enables data parity = true)
    (p : PrimeRead) : (s.primeTaken p m data parity).primeStep.noticeSet .parity = true := by
  obtain ⟨hread, _, _, _, _, _, _, _, _, hnotices⟩ := s.primeTaken_frame p m data parity
  rw [State.primeStep_of_none hread]
  refine primeSteps_noticeSet 33 ?_
  rw [State.noticeSet, hnotices, State.checkParity, if_pos h]
  exact State.produce_noticeSet (s.setNotice_noticeSet .parity) _

/-- The word of a read's completion, after the engine's step (R60). -/
theorem State.primeStepped_word {s : State} {p : PrimeRead} {k : Nat}
    (hk : s.shadowIndex p.region p.addr = some k) (m : MemCycle) (data : Word) (parity : BitVec 2) :
    let t := (s.primeTaken p m data parity).primeStep
    (s.takes p k → (t.region p.region).enginePrimed = satInc (s.region p.region).enginePrimed ∧
      ∀ j, shadowGet t.shadow j = if j = k then some data else shadowGet s.shadow j) ∧
    (¬s.takes p k → (t.region p.region).enginePrimed = (s.region p.region).enginePrimed ∧ t.shadow = s.shadow) := by
  obtain ⟨hread, _⟩ := s.primeTaken_frame p m data parity
  have hshadow : (s.primeTaken p m data parity).primeStep.shadow = (s.primeTaken p m data parity).shadow := by simp
  dsimp only
  rw [hshadow, State.primeStep_of_none hread, primeSteps_enginePrimed]
  refine ⟨fun h => ?_, fun h => ?_⟩
  · obtain ⟨hset, hself, _⟩ := State.primeTaken_taken hk h m data parity
    rw [hset, hself]
    exact ⟨rfl, fun j => shadowGet_shadowSet _ _ _ _⟩
  · obtain ⟨hkept, hregions⟩ := State.primeTaken_discarded hk h m data parity
    rw [hkept, State.region, hregions]
    exact ⟨rfl, rfl⟩

/-- The only region in PRIMING is still the one served after its read. -/
theorem State.primeTaken_lowest {s : State} {p : PrimeRead} (hpriming : (s.region p.region).state = .priming)
    (hunique : ∀ i, i ≠ p.region → (s.region i).state ≠ .priming) (m : MemCycle) (data : Word)
    (parity : BitVec 2) : (s.primeTaken p m data parity).lowestPriming = some p.region := by
  have hlayout := s.primeTaken_layout p m data parity
  refine State.lowestPriming_of_unique ((hlayout p.region).1.trans hpriming) fun q hq => ?_
  by_contra hne
  exact hunique q hne ((hlayout q).1.symm.trans hq)

theorem State.releasePort_noticeSet (s : State) (n : Notice) : s.releasePort.noticeSet n = s.noticeSet n := by
  simp [State.noticeSet]

/-- Settles O50: the grant reads the first invalid word, or completes the region; the completion of a read takes the
word and lets the engine step. -/
theorem primingReadsInvalidWords : Obligations.PrimingReadsInvalidWords := by
  refine ⟨fun s r e howner haward hserved hread hpriming he => ?_, fun s p m data parity hread hm howner => ?_⟩
  · have hreads : ∀ {k cursor}, s.primeTarget r = some (k, cursor) → exec .primeGrant s = .next _ := fun htarget =>
      (execPrimeGrant_reads howner haward hserved htarget).trans (by rw [s.issuePrime_eq r _ _ hserved])
    refine ⟨fun k hk hinvalid hfirst => hreads (State.primeTarget_of_first ?_),
      fun hnone k hinvalid hfirst => hreads (State.primeTarget_of_rescan ?_ ?_), fun hvalid => ?_⟩
    · exact State.firstInvalid_of_first he hk hinvalid hfirst
    · exact (State.firstInvalid_eq_none_iff he _).mpr hnone
    · exact State.firstInvalid_of_first he (Nat.zero_le k) hinvalid fun j _ => hfirst j
    · have htarget : s.primeTarget r = none := State.primeTarget_of_none
        ((State.firstInvalid_eq_none_iff he _).mpr fun k _ => hvalid k)
        ((State.firstInvalid_eq_none_iff he 0).mpr fun k _ => hvalid k)
      obtain ⟨hself, hnotice, hpath, howner', hlast⟩ := s.primeGranted_spec r hread
      refine ⟨_, execPrimeGrant_completes howner haward hserved htarget, hself, hnotice, hpath, howner'.trans howner,
        hlast, by simp [State.primeGranted], by simp [State.primeGranted], by simp [State.primeGranted],
        by simp [State.primeGranted], by simp [State.primeGranted], fun hunique => ?_⟩
      exact State.primeGranted_only hread hunique
  · obtain ⟨hread', hpath, hsettle, hdrain, hmonitor, hport, halloc, htime, hqueue, hnotices⟩ :=
      s.primeTaken_frame p m data parity
    have hlayout := s.primeTaken_layout p m data parity
    have hstep := State.primeStep_of_none hread'
    refine ⟨_, execPrimeReadCompletion_eq hread hm howner data parity, ?_, by rw [State.releasePort_eq]; simp [hpath],
      by rw [State.releasePort_eq], by simp [hsettle], by simp [hdrain], by simp [hmonitor], by simp [hport],
      by simp [halloc], fun herror => ?_, fun e he => ?_, fun hnone => ?_⟩
    · simp only [State.releasePort_frame, hstep, primeSteps_read, hread']
    · rw [State.releasePort_noticeSet]
      exact State.primeTaken_parity herror p
    · have hk := State.shadowIndex_of_extent he p.addr
      have hwords := State.primeStepped_word hk m data parity
      have hregion : ∀ q, (s.primeTaken p m data parity).primeStep.releasePort.region q =
          (s.primeTaken p m data parity).primeStep.region q := by simp
      have hshadow : (s.primeTaken p m data parity).primeStep.releasePort.shadow =
          (s.primeTaken p m data parity).primeStep.shadow := by simp
      have hshadow' : (s.primeTaken p m data parity).primeStep.shadow = (s.primeTaken p m data parity).shadow := by
        simp
      dsimp only at hwords ⊢
      rw [hregion, hshadow]
      refine ⟨hwords.1, hwords.2, fun hpriming hunique => ?_⟩
      have hlowest := State.primeTaken_lowest hpriming hunique m data parity
      have hextent := (State.extentOf_congr halloc p.region).trans he
      have hinvalid : ∀ j, (s.primeTaken p m data parity).invalidAt p.region e j ↔
          j < (s.region p.region).cfg.size ∧
            shadowGet (s.primeTaken p m data parity).primeStep.shadow (e.first + j) = none := by
        intro j
        rw [State.invalidAt, (hlayout p.region).2, hshadow']
      obtain ⟨htraffic, hothers⟩ := State.primeTaken_region hk m data parity
      refine ⟨fun i hi => ?_, fun j hj => ?_, fun hvalid => ?_⟩
      · obtain ⟨_, hkept⟩ := (s.primeTaken p m data parity).primeStep_primedOnly i
        rw [← hothers i hi, ← hkept (by rw [(hlayout i).1]; exact hunique i hi)]
        simp
      · obtain ⟨hstate, hprime, hqueue', hnotices'⟩ :=
          State.primeStep_claiming hread' hlowest hextent ((hinvalid j).mpr hj)
        simp only [State.releasePort_frame]
        exact ⟨hstate, hprime, hqueue'.trans hqueue, hnotices'.trans hnotices⟩
      · obtain ⟨hlive, hcursor, hprime, hnotice, hidle, hrun⟩ := State.primeStep_completed hread' hlowest hextent
          (fun j hj => hvalid j ((hinvalid j).mp hj))
          fun i hi => by rw [(hlayout i).1]; exact hunique i hi
        rw [hmonitor, hqueue] at hidle
        rw [hmonitor] at hrun
        rw [(hlayout p.region).2] at hcursor
        rw [State.releasePort_noticeSet]
        simp only [State.releasePort_frame]
        refine ⟨hlive, hcursor, hprime, hnotice, hidle, fun h => (hrun h).trans ?_⟩
        have hreport : (s.primeTaken p m data parity).primedReport p.region = {
            kind := .primed
            region := some p.region
            valueA := ((s.primeTaken p m data parity).primeStep.region p.region).enginePrimed
            valueB := (s.region p.region).trafficPrimed } := by
          rw [State.primedReport, htraffic, hstep, primeSteps_enginePrimed]
        rw [hreport]
        exact State.createRecord_queue_congr hqueue (by simp [htime]) _
    · have hkept : (s.primeTaken p m data parity).regions = s.regions := by
        rw [State.primeTaken, State.takePrime_of_left (by simpa using hnone p.region)]
        simp
      have hlowest : (s.primeTaken p m data parity).lowestPriming = none := by
        rw [State.lowestPriming_eq_none_iff]
        intro q
        rw [(hlayout q).1]
        exact hnone q
      rw [State.primeStep_idle hread' hlowest]
      exact ⟨by simp [hkept], by simp⟩

end Sys2Proof.Machine
end

section
/-! The drain's writes and what follows their completions (R30, R115, R118, R135 to R137, R140 to R144). -/

namespace Sys2Proof.Machine

/-! ### Driving words -/

/-- A word of the head record on its way to the buffer of link `l` (R135). -/
def Link.wordCycle (l : Link) (r : Record) (k : Nat) : MemCycle where
  write := true
  addr := l.base + BitVec.ofNat 20 (l.fill * 8 + k)
  enables := 3
  data := r.words.getD k 0
  parity := parityLines (r.words.getD k 0)

theorem State.driveWord_eq {s : State} {i : Fin 8} {head : Record} {rest : List Record}
    (hcurrent : s.drain.current = some i) (hrecords : s.queue.records = head :: rest) (k : Nat) :
    s.driveWord k = { s with
      path := { s.path with memCycle := some ((s.link i).wordCycle head k) }
      drain := { s.drain with recordInFlight := some k } } := by
  simp only [State.driveWord, hcurrent, hrecords]
  rfl

theorem State.drivePad_eq {s : State} {i : Fin 8} (hcurrent : s.drain.current = some i) (k : Nat) :
    s.drivePad k = { s with
      path := { s.path with memCycle := some {
        write := true
        addr := (s.link i).base + BitVec.ofNat 20 ((s.link i).fill * 8 + k)
        enables := 3
        data := 0
        parity := parityLines 0 } }
      drain := { s.drain with padInFlight := some k } } := by
  simp only [State.drivePad, hcurrent]
  rfl

/-- The port is the drain's, for a burst of the limit (R28, R30). -/
def State.drainGranted (s : State) : State :=
  { s with arb := {
      owner := some .drain
      award := none
      burstCount := s.port.burstLimit
      lastBackground := .drain } }

theorem execDrainGrant_eq {s : State} (howner : s.arb.owner = none) (haward : s.arb.award = some .drain) :
    exec .drainGrant s = .next (s.drainGranted.driveWord 0) :=
  if_pos ⟨howner, haward⟩

/-- A drain write in flight with nothing of the drain's own in flight was abandoned by a reset (R44). -/
theorem State.abandonedWrite_iff (s : State) :
    s.abandonedWrite = true ↔ s.arb.owner = some .drain ∧ s.path.memCycle.isSome = true ∧
      s.drain.recordInFlight = none ∧ s.drain.padInFlight = none := by
  simp [State.abandonedWrite, and_assoc]

theorem State.not_abandoned_of_record {s : State} {k : Nat} (h : s.drain.recordInFlight = some k) :
    ¬s.abandonedWrite = true := by
  simp [State.abandonedWrite_iff, h]

theorem State.not_abandoned_of_pad {s : State} {k : Nat} (h : s.drain.padInFlight = some k) :
    ¬s.abandonedWrite = true := by
  simp [State.abandonedWrite_iff, h]

/-- The completion of an abandoned write, under whichever row it is reported (R44). -/
theorem exec_abandoned {c : Instr} {s : State}
    (hc : c = .drainWriteCompletion ∨ c = .recordWriteCompletion ∨ c = .padWriteCompletion)
    (h : s.abandonedWrite = true) : exec c s = .next s.releasePort := by
  rcases hc with rfl | rfl | rfl
  · exact if_pos h
  · exact if_pos h
  · exact if_pos h

theorem execDrainWriteCompletion_drives {s : State} {k : Nat} (hk : k < 7) (hrecord : s.drain.recordInFlight = some k)
    (howner : s.arb.owner = some .drain) (hm : s.path.memCycle.isSome = true) :
    exec .drainWriteCompletion s = .next (s.driveWord (k + 1)) := by
  have hexec : exec .drainWriteCompletion s = execDrainWriteCompletion s := rfl
  rw [hexec, execDrainWriteCompletion, if_neg (State.not_abandoned_of_record hrecord)]
  simp only [hrecord]
  exact if_pos ⟨howner, hm, hk⟩

/-- Settles O51: the grant and the completions drive the words of the head record, one by one. -/
theorem drainBurstWritesTheHeadRecord : Obligations.DrainBurstWritesTheHeadRecord := by
  refine ⟨fun d => parityError_parityLines 3 d, fun s i head rest hcurrent hrecords => ?_,
    fun c s hc howner hm hrecord hpad => ⟨_, exec_abandoned hc ?_, s.releasePort_eq⟩⟩
  · refine ⟨fun howner haward => ?_, fun k hk hrecord howner hm => ?_⟩
    · rw [execDrainGrant_eq howner haward]
      exact congrArg Host.Outcome.next (State.driveWord_eq (s := s.drainGranted) hcurrent hrecords 0)
    · rw [execDrainWriteCompletion_drives hk hrecord howner hm]
      exact congrArg Host.Outcome.next (State.driveWord_eq hcurrent hrecords (k + 1))
  · exact s.abandonedWrite_iff.mpr ⟨howner, hm, hrecord, hpad⟩

/-! ### What a closure leaves, seen from other states -/

theorem State.closedAndAdvanced_of {s s' t t' : State} {i : Fin 8} {reason : CloseReason}
    (h : State.closedAndAdvanced s t i reason) (hlinks : s'.drain.links = s.drain.links)
    (hstate : s'.drain.state = s.drain.state) (hpointer : s'.drain.pointer = s.drain.pointer)
    (hlast : s'.notices.lastNotified = s.notices.lastNotified) (hdrain : t'.drain = t.drain)
    (hnotices : t'.notices = t.notices) : State.closedAndAdvanced s' t' i reason := by
  unfold State.closedAndAdvanced State.link State.noticeSet at *
  rwa [hlinks, hstate, hpointer, hlast, hdrain, hnotices]

theorem State.markJudged_of {s s' t t' : State} {i : Fin 8} {mark : Option FlushMark}
    (h : State.markJudged s t i mark) (hlinks : s'.drain.links = s.drain.links)
    (hstate : s'.drain.state = s.drain.state) (hmonitor : s'.monitor = s.monitor)
    (hcompleteness : s'.notices.completeness = s.notices.completeness) (hdrain : t'.drain = t.drain)
    (hnotices : t'.notices = t.notices) (hmonitor' : t'.monitor = t.monitor) : State.markJudged s' t' i mark := by
  unfold State.markJudged State.frozenWith State.link State.noticeSet at *
  rwa [hlinks, hstate, hmonitor, hcompleteness, hdrain, hnotices, hmonitor']

/-! ### Pads -/

theorem execPadWriteCompletion_eq {s : State} {k : Nat} {i : Fin 8} (howner : s.arb.owner = some .drain)
    (hm : s.path.memCycle.isSome = true) (hpad : s.drain.padInFlight = some k) (hcurrent : s.drain.current = some i) :
    exec .padWriteCompletion s =
      if k + 1 < (s.link i).spaceLeft then .next (s.drivePad (k + 1)) else .next (s.padsWritten i) := by
  have hexec : exec .padWriteCompletion s = execPadWriteCompletion s := rfl
  rw [hexec, execPadWriteCompletion, if_neg (State.not_abandoned_of_pad hpad)]
  simp only [hpad, hcurrent]
  exact if_pos ⟨howner, hm⟩

/-- The last pad of a run is written (R136). -/
def State.padsDone (s : State) : State := { s with drain := { s.drain with padInFlight := none } }

theorem State.padsWritten_of_abort {s : State} (h : s.drain.abortPending = true) (i : Fin 8) :
    s.padsWritten i = ((s.padsDone.closeLink i .full).settleAbort i).releasePort := by
  rw [State.padsWritten, if_pos h]
  rfl

theorem State.padsWritten_of_advance {s : State} (h : s.drain.abortPending = false) (i : Fin 8) :
    s.padsWritten i = (s.padsDone.closeAdvance i .full).releasePort := by
  rw [State.padsWritten, if_neg (Bool.eq_false_iff.mp h)]
  rfl

theorem State.closeAdvance_frame (s : State) (i : Fin 8) (reason : CloseReason) :
    (s.closeAdvance i reason).path = s.path ∧ (s.closeAdvance i reason).arb = s.arb ∧
      (s.closeAdvance i reason).regions = s.regions ∧ (s.closeAdvance i reason).shadow = s.shadow ∧
      (s.closeAdvance i reason).settle = s.settle ∧ (s.closeAdvance i reason).prime = s.prime ∧
      (s.closeAdvance i reason).queue = s.queue ∧ (s.closeAdvance i reason).time = s.time ∧
      (s.closeAdvance i reason).port = s.port := by
  unfold State.closeAdvance
  split <;> simp

/-- An aborted closure under other names for the states before and after. -/
theorem State.abortedLink_of {s s' t t' : State} {i : Fin 8} {reason : CloseReason}
    (h : State.abortedLink s t i reason) (hlinks : s'.drain.links = s.drain.links)
    (hstate : s'.drain.state = s.drain.state) (hpointer : s'.drain.pointer = s.drain.pointer)
    (hdrain : t'.drain = t.drain) : State.abortedLink s' t' i reason := by
  unfold State.abortedLink State.link at *
  rwa [hlinks, hstate, hpointer, hdrain]

/-- The last pad write (R136, R137, R141, R143, R144). -/
theorem State.padsWritten_spec (s : State) (i : Fin 8) :
    let t := s.padsWritten i
    t.arb.owner = none ∧ t.path = { s.path with memCycle := none } ∧ t.drain.padInFlight = none ∧
      t.link i = { s.link i with state := .done, closeReason := some .full } ∧
      (s.drain.abortPending = false →
        State.closedAndAdvanced s t i .full ∧ State.markJudged s t i s.drain.mark) ∧
      (s.drain.abortPending = true → State.abortedLink s t i .full) := by
  dsimp only
  rcases Bool.eq_false_or_eq_true s.drain.abortPending with habort | habort
  · have haborted : State.abortedLink s (s.padsWritten i) i .full := by
      rw [State.padsWritten_of_abort habort]
      exact State.abortedLink_of (s.padsDone.settleAbort_abortedLink i .full) rfl rfl rfl (by simp)
    obtain ⟨_, _, hlink, _⟩ := id haborted
    obtain ⟨_, hpad, _⟩ := s.padsDone.settleAbort_inFlight i .full
    refine ⟨?_, ?_, ?_, hlink, fun hc => (nomatch habort.symm.trans hc), fun _ => haborted⟩
    · rw [State.padsWritten_of_abort habort, State.releasePort_eq]
    · rw [State.padsWritten_of_abort habort, State.releasePort_eq]
      simp [State.padsDone]
    · rw [State.padsWritten_of_abort habort, State.releasePort_eq]
      exact hpad
  · have hclosed : State.closedAndAdvanced s (s.padsWritten i) i .full := by
      rw [State.padsWritten_of_advance habort]
      exact State.closedAndAdvanced_of (s.padsDone.closeAdvance_closedAndAdvanced i .full) rfl rfl rfl rfl
        (by simp) (by simp)
    have hjudged : State.markJudged s (s.padsWritten i) i s.drain.mark := by
      rw [State.padsWritten_of_advance habort]
      exact State.markJudged_of (s.padsDone.closeAdvance_markJudged i .full) rfl rfl rfl rfl
        (by simp) (by simp) (by simp)
    obtain ⟨hpath, _⟩ := s.padsDone.closeAdvance_frame i .full
    obtain ⟨_, hpad, _⟩ := s.padsDone.closeAdvance_inFlight i .full
    refine ⟨?_, ?_, ?_, hclosed.1, fun _ => ⟨hclosed, hjudged⟩, fun hc => (nomatch habort.symm.trans hc)⟩
    · rw [State.padsWritten_of_advance habort, State.releasePort_eq]
    · rw [State.padsWritten_of_advance habort, State.releasePort_eq, hpath]
      rfl
    · rw [State.padsWritten_of_advance habort, State.releasePort_eq]
      exact hpad

/-! ### The rows that stand alone -/

theorem execBurstEnd_releases {s : State} (howner : s.arb.owner = some .drain) (hm : s.path.memCycle = none)
    (hrecord : s.drain.recordInFlight = none) (hpad : s.drain.padInFlight = none) :
    exec .burstEnd s = .next s.releasePort :=
  if_pos ⟨howner, hm, hrecord, hpad⟩

/-- With no memory cycle driven the end of the operation frees the port alone (R30). -/
theorem State.releasePort_of_no_cycle {s : State} (hm : s.path.memCycle = none) :
    s.releasePort = { s with arb := { s.arb with owner := none, award := s.releasePort.arb.award } } := by
  have hpath : { s.path with memCycle := none } = s.path := by
    rw [← hm]
  refine s.releasePort_eq.trans ?_
  rw [hpath]

theorem execFlushComplete_completes {s : State} (hdue : s.flushDue = true) (hrecord : s.drain.recordInFlight = none)
    (hpad : s.drain.padInFlight = none) : exec .flushComplete s = .next s.completeFlush.arbitrate :=
  if_pos ⟨hdue, hrecord, hpad⟩

theorem execAbortCarriedOut_settles {s : State} {i : Fin 8} (hcurrent : s.drain.current = some i)
    (habort : s.drain.abortPending = true) (hrecord : s.drain.recordInFlight = none)
    (hpad : s.drain.padInFlight = none) :
    exec .abortCarriedOut s = .next ((s.closeLink i .abort).settleAbort i).arbitrate := by
  rw [← State.carryOutAbort_of_current hcurrent]
  exact if_pos ⟨habort, hrecord, hpad⟩

/-- A flush whose mark stands at 0 (R143, R157): the mark is gone, and a SNAP one ends the freeze complete. -/
theorem State.completeFlush_mark {s : State} {i : Fin 8} {m : FlushMark} (hcurrent : s.drain.current = some i)
    (hmark : s.drain.mark = some m) (hzero : m.remaining = 0) :
    s.completeFlush.drain.mark = none ∧ (m.origin = .snap → State.frozenWith s s.completeFlush .complete) ∧
      (m.origin = .flush → s.completeFlush.monitor = s.monitor) := by
  have hdue := s.flushDue_iff.mpr ⟨m, hmark, hzero⟩
  have hflush : m.origin = .flush → ∀ m', s.drain.mark = some m' → m'.origin ≠ .snap := by
    intro ho m' hm'
    cases Option.some.inj (hmark.symm.trans hm')
    rw [ho]
    exact nofun
  rcases Nat.eq_zero_or_pos (s.link i).fill with hfill | hfill
  · rw [State.completeFlush_empty hcurrent hfill]
    refine ⟨by rw [State.dropMark_drain], fun ho => State.dropMark_frozenWith hmark ho .complete, fun ho => ?_⟩
    exact (State.dropMark_monitor (hflush ho) .complete).1
  · rw [State.completeFlush_filled hcurrent hfill hdue]
    obtain ⟨_, hsome, hkept⟩ := s.closeAdvance_markJudged i .flush
    obtain ⟨hgone, _, hcomplete, _⟩ := hsome m hmark
    refine ⟨hgone (.inl hzero), fun ho => hcomplete ho hzero, fun ho => ?_⟩
    exact (hkept fun m' hm' ho' => absurd ho' (hflush ho m' hm')).1

/-- Settles O53: a pad write drives the next pad or closes the link, and the rows that stand alone do what the
completions do. -/
theorem padsAndDrainEventsCloseLinks : Obligations.PadsAndDrainEventsCloseLinks := by
  refine ⟨fun s i k howner hm hrecord hpad hcurrent => ?_, fun s hrecord hpad => ⟨fun howner hm => ?_,
    fun i m hcurrent hmark hzero => ?_, fun i hcurrent habort => ?_⟩⟩
  · have hexec := execPadWriteCompletion_eq howner hm hpad hcurrent
    dsimp only
    by_cases hmore : k + 1 < (s.link i).spaceLeft
    · rw [if_pos hmore, State.drivePad_eq hcurrent] at hexec
      exact ⟨_, hexec, rfl, rfl, rfl, rfl, rfl, fun _ => rfl, fun hlast => absurd hmore (Nat.not_lt.mpr hlast)⟩
    · rw [if_neg hmore] at hexec
      obtain ⟨hfree, hpath, hnone, hlink, hadvanced, haborted⟩ := s.padsWritten_spec i
      refine ⟨_, hexec, by simp, by simp, by simp, by simp, by simp, fun hc => absurd hc hmore,
        fun _ => ⟨hfree, hpath, hnone, hlink, hadvanced, fun habort => ?_⟩⟩
      obtain ⟨hsettled, hnocurrent, _, hothers⟩ := haborted habort
      exact ⟨hsettled, hnocurrent, hothers⟩
  · exact ⟨_, execBurstEnd_releases howner hm hrecord hpad, State.releasePort_of_no_cycle hm⟩
  · have hdue := s.flushDue_iff.mpr ⟨m, hmark, hzero⟩
    obtain ⟨hnone, hsnap, hflush⟩ := State.completeFlush_mark hcurrent hmark hzero
    refine ⟨_, execFlushComplete_completes hdue hrecord hpad, by simpa using hnone, by simp, by simp, by simp,
      fun hfill => ?_, fun hfill => ?_, fun ho => ?_, fun ho => by simpa using hflush ho⟩
    · rw [State.completeFlush_empty hcurrent hfill, ← State.dropMark_drain s .complete]
      simp
    · rw [State.completeFlush_filled hcurrent hfill hdue, ← hmark]
      exact ⟨State.closedAndAdvanced_of (s.closeAdvance_closedAndAdvanced i .flush) rfl rfl rfl rfl
          (by simp) (by simp),
        State.markJudged_of (s.closeAdvance_markJudged i .flush) rfl rfl rfl rfl (by simp) (by simp) (by simp)⟩
    · obtain ⟨hmonitor, hset, hcomplete⟩ := hsnap ho
      rw [State.arbitrate_eq]
      exact ⟨by rw [hmonitor], hcomplete, hset⟩
  · obtain ⟨hsettled, hnocurrent, hlink, hothers, hended, hnext⟩ := s.settleAbort_abortedLink i .abort
    refine ⟨_, execAbortCarriedOut_settles hcurrent habort hrecord hpad, ?_⟩
    rw [State.arbitrate_eq]
    exact ⟨hsettled, hnocurrent, hlink, hothers, by simp, by simp, by simp, hended, hnext⟩

end Sys2Proof.Machine
end

section
/-! The completion of a record's eighth write (R30, R115, R118, R135, R136, R141, R143): the record leaves, then the
closure is judged. -/

namespace Sys2Proof.Machine

/-! ### The record leaves -/

theorem execRecordWriteCompletion_eq {s : State} {i : Fin 8} (howner : s.arb.owner = some .drain)
    (hm : s.path.memCycle.isSome = true) (hrecord : s.drain.recordInFlight = some 7)
    (hcurrent : s.drain.current = some i) :
    exec .recordWriteCompletion s = .next ((s.recordWritten i).judgeClosure i) := by
  have hexec : exec .recordWriteCompletion s = execRecordWriteCompletion s := rfl
  rw [hexec, execRecordWriteCompletion, if_neg (State.not_abandoned_of_record hrecord)]
  simp only [hrecord, hcurrent]
  exact if_pos ⟨howner, hm, trivial⟩

/-- A placement with room: the pending loss, if any, is the last record, and none is pending (R115). -/
theorem State.placeLoss_records {s : State} (hroom : s.queue.records.length < 64) :
    s.placeLoss.queue.records = s.queue.records ++ (if s.queue.lossCount = 0 then [] else
      [s.nextRecord { kind := .loss, valueA := s.queue.lossCount, valueB := s.queue.firstLost }]) ∧
      s.placeLoss.queue.lossCount = 0 := by
  by_cases hloss : s.queue.lossCount = 0
  · rw [State.placeLoss_of_not (fun hc => hc.1 hloss), if_pos hloss, List.append_nil]
    exact ⟨rfl, hloss⟩
  · rw [State.placeLoss_queue_placed hloss hroom, if_neg hloss]
    exact ⟨rfl, rfl⟩

/-- The head record has left; the placement is still to come. -/
def State.recordLeft (s : State) (i : Fin 8) : State :=
  { s.recordDone i with queue := { s.queue with records := s.queue.records.drop 1 } }

/-- The records once the head has left and a pending loss is placed (R115, R118). -/
theorem State.recordWritten_queue {s : State} {head : Record} {rest : List Record}
    (hrecords : s.queue.records = head :: rest) (hroom : rest.length < 64) (i : Fin 8) :
    (s.recordWritten i).queue.records = rest ++ (if s.queue.lossCount = 0 then [] else
      [Record.make { kind := .loss, valueA := s.queue.lossCount, valueB := s.queue.firstLost }
        s.time.stamp s.queue.nextSeq]) ∧
      (s.recordWritten i).queue.lossCount = 0 := by
  have hrest : (s.recordLeft i).queue.records = rest := by
    rw [State.recordLeft, hrecords]
    rfl
  obtain ⟨hplaced, hloss⟩ := State.placeLoss_records (s := s.recordLeft i) (by rw [hrest]; exact hroom)
  rw [hrest] at hplaced
  rw [State.recordWritten_eq]
  exact ⟨hplaced, hloss⟩

theorem State.recordWritten_arb (s : State) (i : Fin 8) :
    (s.recordWritten i).arb = { s.arb with burstCount := s.arb.burstCount - 1 } := by
  rw [State.recordWritten_eq]
  simp [State.recordDone]

theorem State.recordWritten_sideStates (s : State) (i : Fin 8) :
    (s.recordWritten i).notices.lastNotified = s.notices.lastNotified ∧
      (s.recordWritten i).notices.completeness = s.notices.completeness := by
  rw [State.recordWritten_eq]
  simp [State.recordDone]

theorem State.recordWritten_monitor (s : State) (i : Fin 8) : (s.recordWritten i).monitor = s.monitor := by
  simp

theorem State.recordWritten_link (s : State) (i : Fin 8) :
    (s.recordWritten i).link i = { s.link i with fill := (s.link i).fill + 1 } := by
  rw [State.link, State.recordWritten_drain]
  simp

theorem State.recordWritten_link_other (s : State) {i j : Fin 8} (h : j ≠ i) :
    (s.recordWritten i).link j = s.link j := by
  rw [State.link, State.recordWritten_drain]
  simp [h.symm]

/-! ### The closure is judged -/

theorem State.judgeClosure_aborts {s : State} {i : Fin 8} (habort : s.drain.abortPending = true)
    (hcurrent : s.drain.current = some i) :
    s.judgeClosure i = ((s.closeLink i .abort).settleAbort i).releasePort := by
  rw [State.judgeClosure, if_pos habort, State.carryOutAbort_of_current hcurrent]

theorem State.judgeClosure_full {s : State} {i : Fin 8} (habort : s.drain.abortPending = false)
    (hleft : (s.link i).spaceLeft = 0) : s.judgeClosure i = (s.closeAdvance i .full).releasePort := by
  rw [State.judgeClosure, if_neg (Bool.eq_false_iff.mp habort), if_neg (by rw [hleft]; decide), if_pos hleft,
    State.closeFull_eq]

theorem State.judgeClosure_pads {s : State} {i : Fin 8} (habort : s.drain.abortPending = false)
    (hleft : 0 < (s.link i).spaceLeft) (hless : (s.link i).spaceLeft < 8) : s.judgeClosure i = s.drivePad 0 := by
  rw [State.judgeClosure, if_neg (Bool.eq_false_iff.mp habort),
    if_neg (show ¬Config.recordWords ≤ _ from Nat.not_le.mpr hless),
    if_neg (Nat.pos_iff_ne_zero.mp hleft)]

/-- With room for a record the closure waits for the mark and the burst. -/
theorem State.judgeClosure_room {s : State} {i : Fin 8} (habort : s.drain.abortPending = false)
    (hleft : 8 ≤ (s.link i).spaceLeft) :
    s.judgeClosure i = if s.flushDue then s.completeFlush.releasePort
      else if s.burstOver then s.releasePort else s.driveWord 0 := by
  rw [State.judgeClosure, if_neg (Bool.eq_false_iff.mp habort), if_pos (show Config.recordWords ≤ _ from hleft)]

theorem State.burstOver_eq_false_iff (s : State) :
    s.burstOver = false ↔ s.arb.burstCount ≠ 0 ∧ s.queue.records ≠ [] ∧ s.drain.state = .running := by
  simp [State.burstOver, and_assoc]

/-- The drain's hold of the port after a closure: released, nothing in flight. -/
def State.atRest (t : State) : Prop :=
  t.arb.owner = none ∧ t.path.memCycle = none ∧ t.drain.recordInFlight = none ∧ t.drain.padInFlight = none

theorem State.releasePort_atRest {s : State} (hrecord : s.drain.recordInFlight = none)
    (hpad : s.drain.padInFlight = none) : s.releasePort.atRest := by
  unfold State.atRest
  rw [State.releasePort_eq]
  exact ⟨rfl, rfl, hrecord, hpad⟩

/-- A closing and the advance, then the end of the operation. -/
theorem State.closeAdvance_released (s : State) (i : Fin 8) (reason : CloseReason)
    (hrecord : s.drain.recordInFlight = none) (hpad : s.drain.padInFlight = none) :
    (s.closeAdvance i reason).releasePort.atRest ∧
      State.closedAndAdvanced s (s.closeAdvance i reason).releasePort i reason ∧
      State.markJudged s (s.closeAdvance i reason).releasePort i s.drain.mark := by
  obtain ⟨hrecord', hpad', _⟩ := s.closeAdvance_inFlight i reason
  exact ⟨State.releasePort_atRest (hrecord'.trans hrecord) (hpad'.trans hpad),
    State.closedAndAdvanced_of (s.closeAdvance_closedAndAdvanced i reason) rfl rfl rfl rfl (by simp) (by simp),
    State.markJudged_of (s.closeAdvance_markJudged i reason) rfl rfl rfl rfl (by simp) (by simp) (by simp)⟩

theorem State.flushDue_eq_any (s : State) : s.flushDue = s.drain.mark.any fun m => decide (m.remaining = 0) := by
  unfold State.flushDue
  cases s.drain.mark with
  | none => rfl
  | some m => simp [beq_eq_decide]

/-- The block with the fill of link `i` grown by one record (R135). -/
def State.linkGrown (s : State) (i : Fin 8) : State :=
  { s with drain := { s.drain with
      links := s.drain.links.set i { s.link i with fill := (s.link i).fill + 1 } } }

/-- A closing after the record, seen from the grown link. -/
theorem State.recordWritten_closes {s : State} (hpad : s.drain.padInFlight = none) (i : Fin 8)
    (reason : CloseReason) :
    ((s.recordWritten i).closeAdvance i reason).releasePort.atRest ∧
      State.closedAndAdvanced (s.linkGrown i) ((s.recordWritten i).closeAdvance i reason).releasePort i reason ∧
      State.markJudged (s.linkGrown i) ((s.recordWritten i).closeAdvance i reason).releasePort i
        (s.recordWritten i).drain.mark := by
  have hdrain := s.recordWritten_drain i
  obtain ⟨hlast, hcompleteness⟩ := s.recordWritten_sideStates i
  obtain ⟨hrest, hclosed, hjudged⟩ := (s.recordWritten i).closeAdvance_released i reason (by rw [hdrain])
    (by rw [hdrain]; exact hpad)
  exact ⟨hrest,
    State.closedAndAdvanced_of hclosed (by rw [hdrain]; rfl) (by rw [hdrain]; rfl) (by rw [hdrain]; rfl) hlast.symm
      rfl rfl,
    State.markJudged_of hjudged (by rw [hdrain]; rfl) (by rw [hdrain]; rfl)
      (State.recordWritten_monitor s i).symm hcompleteness.symm rfl rfl rfl⟩

/-- Settles O52: the record leaves (`State.recordWritten`), and each outcome of the closure's judgement is read off
the state after it. -/
theorem recordWrittenLeavesTheQueue : Obligations.RecordWrittenLeavesTheQueue := by
  intro s i head rest howner hm hrecord hpad hcurrent hrecords hroom
  obtain ⟨hqueue, hloss⟩ := State.recordWritten_queue hrecords hroom i
  have hdrain := s.recordWritten_drain i
  have harb := s.recordWritten_arb i
  have hmonitor : (s.recordWritten i).monitor = s.monitor := by simp
  have hlink := s.recordWritten_link i
  have hrecord' : (s.recordWritten i).drain.recordInFlight = none := by rw [hdrain]
  have hpad' : (s.recordWritten i).drain.padInFlight = none := by rw [hdrain]; exact hpad
  have hcurrent' : (s.recordWritten i).drain.current = some i := by rw [hdrain]; exact hcurrent
  refine ⟨_, execRecordWriteCompletion_eq howner hm hrecord hcurrent, by simpa using hqueue, by simpa using hloss,
    by simp, by simp, by simp, by simp, by simp, by simp, fun habort => ?_, fun habort => ?_⟩
  · have habort' : (s.recordWritten i).drain.abortPending = true := by rw [hdrain]; exact habort
    obtain ⟨hrecord'', hpad'', _⟩ := (s.recordWritten i).settleAbort_inFlight i .abort
    obtain ⟨hsettled, hnocurrent, hself, hothers, hended, hnext⟩ := State.abortedLink_of
      ((s.recordWritten i).settleAbort_abortedLink i .abort) rfl rfl rfl
      (t' := (((s.recordWritten i).closeLink i .abort).settleAbort i).releasePort) (by simp)
    rw [hlink] at hself hended hnext
    rw [hdrain] at hended hnext
    rw [State.judgeClosure_aborts habort' hcurrent']
    exact ⟨State.releasePort_atRest (hrecord''.trans hrecord') (hpad''.trans hpad'), hsettled, hnocurrent, hself,
      fun j hj => (hothers j hj).trans (s.recordWritten_link_other hj), hended, hnext⟩
  · have habort' : (s.recordWritten i).drain.abortPending = false := by rw [hdrain]; exact habort
    have hspace : ((s.recordWritten i).link i).spaceLeft =
        (s.link i).capacity.toNat - ((s.link i).fill + 1) * 8 := by rw [hlink]; rfl
    have hmark : (s.recordWritten i).drain.mark =
        s.drain.mark.map fun (m : FlushMark) => { m with remaining := m.remaining - 1 } := by rw [hdrain]
    dsimp only
    rw [← hspace, ← hmark]
    refine ⟨fun hleft => ?_, fun hleft => ?_, fun hleft hdue => ?_, fun hleft hdue hmore next hnext => ?_,
      fun hleft hdue hmore => ?_⟩
    · rw [State.judgeClosure_full habort' hleft]
      exact State.recordWritten_closes hpad i .full
    · rw [State.judgeClosure_pads habort' hleft.1 hleft.2, State.drivePad_eq hcurrent', hlink, hdrain, harb]
      exact ⟨⟨howner, rfl, rfl⟩, rfl, hmonitor⟩
    · rw [← State.flushDue_eq_any] at hdue
      rw [State.judgeClosure_room habort' hleft, if_pos hdue,
        State.completeFlush_filled hcurrent' (by rw [hlink]; exact Nat.succ_pos _) hdue]
      exact State.recordWritten_closes hpad i .flush
    · rw [← State.flushDue_eq_any] at hdue
      rw [← hqueue] at hmore hnext
      obtain ⟨hcount, hrecords', hrunning⟩ := hmore
      obtain ⟨rest', hcons⟩ := List.head?_eq_some_iff.mp hnext
      have hover : (s.recordWritten i).burstOver = false := by
        rw [State.burstOver_eq_false_iff, harb, hdrain]
        exact ⟨hcount, hrecords', hrunning⟩
      rw [State.judgeClosure_room habort' hleft, if_neg hdue, if_neg (Bool.eq_false_iff.mp hover),
        State.driveWord_eq hcurrent' hcons, hlink, hdrain, harb]
      exact ⟨⟨howner, rfl, rfl⟩, rfl, hmonitor⟩
    · rw [← State.flushDue_eq_any] at hdue
      rw [← hqueue] at hmore
      have hover : (s.recordWritten i).burstOver = true := by
        rw [← Bool.not_eq_false, State.burstOver_eq_false_iff, harb, hdrain]
        exact hmore
      rw [State.judgeClosure_room habort' hleft, if_neg hdue, if_pos hover]
      have hkept : (s.recordWritten i).releasePort.drain = (s.recordWritten i).drain := by simp
      exact ⟨State.releasePort_atRest hrecord' hpad', hkept.trans (by rw [hmark]; exact hdrain), by simp⟩

end Sys2Proof.Machine
end

section
/-! First fit and the longest free run (R50, R52): both scan the extents in ascending order, and a free run that begins
at or after the scan's position lies before the next extent or after it. -/

namespace Sys2Proof.Machine

/-- The `n` indices from `k` lie within the Shadow Store and in no extent. -/
def FreeRun (alloc : List Extent) (n k : Nat) : Prop :=
  k + n ≤ 4096 ∧ ∀ e ∈ alloc, k + n ≤ e.first ∨ e.first + e.length ≤ k

/-- The extents ascend from index `start` within the Shadow Store and do not meet (R49). -/
def AscendsFrom (start : Nat) (alloc : List Extent) : Prop :=
  start ≤ 4096 ∧ (∀ e ∈ alloc, start ≤ e.first ∧ e.first + e.length ≤ 4096) ∧
    alloc.Pairwise fun e e' => e.first + e.length ≤ e'.first

theorem AscendsFrom.tail {start : Nat} {e : Extent} {rest : List Extent} (h : AscendsFrom start (e :: rest)) :
    AscendsFrom (e.first + e.length) rest := by
  obtain ⟨_, hwithin, hpairwise⟩ := h
  obtain ⟨hafter, hrest⟩ := List.pairwise_cons.1 hpairwise
  exact ⟨(hwithin e (by simp)).2,
    fun x hx => ⟨hafter x hx, (hwithin x (List.mem_cons_of_mem e hx)).2⟩, hrest⟩

/-- A free run lies before the first extent, or after it and free of the others. -/
theorem freeRun_cons {start n k : Nat} {e : Extent} {rest : List Extent} (h : AscendsFrom start (e :: rest)) :
    FreeRun (e :: rest) n k ↔ k + n ≤ e.first ∨ e.first + e.length ≤ k ∧ FreeRun rest n k := by
  obtain ⟨hend, hwithin, _⟩ := h.tail
  constructor
  · rintro ⟨hbound, hfree⟩
    exact (hfree e (by simp)).imp_right fun hafter =>
      ⟨hafter, hbound, fun x hx => hfree x (List.mem_cons_of_mem e hx)⟩
  · rintro (hbefore | ⟨hafter, hbound, hfree⟩)
    · refine ⟨by omega, List.forall_mem_cons.2 ⟨.inl hbefore, fun x hx => .inl ?_⟩⟩
      have hx' := (hwithin x hx).1
      omega
    · exact ⟨hbound, List.forall_mem_cons.2 ⟨.inr hafter, hfree⟩⟩

/-- The index found is the lowest free run at or after the scan's position. -/
theorem firstFit_some {n start k : Nat} {alloc : List Extent} (h : AscendsFrom start alloc)
    (hfit : firstFit n start alloc = some k) :
    start ≤ k ∧ FreeRun alloc n k ∧ ∀ j, start ≤ j → j < k → ¬FreeRun alloc n j := by
  induction alloc generalizing start with
  | nil =>
    unfold firstFit at hfit
    split at hfit
    · next hroom =>
      cases hfit
      exact ⟨le_rfl, ⟨hroom, by simp⟩, fun j hj hlt => absurd hj (by omega)⟩
    · cases hfit
  | cons e rest ih =>
    unfold firstFit at hfit
    split at hfit
    · next hroom =>
      cases hfit
      exact ⟨le_rfl, (freeRun_cons h).2 (.inl hroom), fun j hj hlt => absurd hj (by omega)⟩
    · next hnoroom =>
      obtain ⟨hafter, hfree, hlowest⟩ := ih h.tail hfit
      have hstart := (h.2.1 e (by simp)).1
      refine ⟨by omega, (freeRun_cons h).2 (.inr ⟨hafter, hfree⟩), fun j hj hlt hfree' => ?_⟩
      rcases (freeRun_cons h).1 hfree' with hbefore | ⟨hafter', hrest⟩
      · omega
      · exact hlowest j hafter' hlt hrest

/-- No index found: no free run at or after the scan's position. -/
theorem firstFit_none {n start k : Nat} {alloc : List Extent} (h : AscendsFrom start alloc)
    (hfit : firstFit n start alloc = none) (hk : start ≤ k) : ¬FreeRun alloc n k := by
  induction alloc generalizing start with
  | nil =>
    unfold firstFit at hfit
    split at hfit
    · cases hfit
    · next hnoroom =>
      have hfull : 4096 < start + n := Nat.lt_of_not_le hnoroom
      exact fun hfree => absurd hfree.1 (by omega)
  | cons e rest ih =>
    unfold firstFit at hfit
    split at hfit
    · cases hfit
    · next hnoroom =>
      rw [freeRun_cons h]
      rintro (hbefore | ⟨hafter, hrest⟩)
      · omega
      · exact ih h.tail hfit hafter hrest

/-- A run of the length found is free at or after the scan's position. -/
theorem exists_freeRun_largestFree {start : Nat} {alloc : List Extent} (h : AscendsFrom start alloc) :
    ∃ k, start ≤ k ∧ FreeRun alloc (largestFree start alloc) k := by
  induction alloc generalizing start with
  | nil =>
    have hroom : start + (4096 - start) ≤ 4096 := by have := h.1; omega
    exact ⟨start, le_rfl, hroom, by simp⟩
  | cons e rest ih =>
    have hstart := (h.2.1 e (by simp)).1
    obtain ⟨k, hk, hfree⟩ := ih h.tail
    unfold largestFree
    rcases max_choice (e.first - start) (largestFree (e.first + e.length) rest) with hmax | hmax <;> rw [hmax]
    · exact ⟨start, le_rfl, (freeRun_cons h).2 (.inl (by omega))⟩
    · exact ⟨k, by omega, (freeRun_cons h).2 (.inr ⟨hk, hfree⟩)⟩

/-- No free run at or after the scan's position is longer. -/
theorem le_largestFree {n start k : Nat} {alloc : List Extent} (h : AscendsFrom start alloc) (hk : start ≤ k)
    (hfree : FreeRun alloc n k) : n ≤ largestFree start alloc := by
  induction alloc generalizing start with
  | nil =>
    have hbound := hfree.1
    exact (show n ≤ 4096 - start by omega)
  | cons e rest ih =>
    unfold largestFree
    rcases (freeRun_cons h).1 hfree with hbefore | ⟨hafter, hrest⟩
    · exact le_max_of_le_left (by omega)
    · exact le_max_of_le_right (ih h.tail hafter hrest)

/-- A Shadow Allocation List as R49 describes it ascends from index 0. -/
theorem ascendsFrom_zero {alloc : List Extent} (hwithin : ∀ e ∈ alloc, 1 ≤ e.length ∧ e.first + e.length ≤ 4096)
    (hapart : alloc.Pairwise fun e e' => e.first + e.length ≤ e'.first) : AscendsFrom 0 alloc :=
  ⟨by decide, fun e he => ⟨Nat.zero_le _, (hwithin e he).2⟩, hapart⟩

/-- Settles O24: `firstFit_some` and `firstFit_none` from index 0. -/
theorem firstFitIsLowestFreeRun : Obligations.FirstFitIsLowestFreeRun := by
  intro n alloc _ hwithin hapart free
  have hascends := ascendsFrom_zero hwithin hapart
  refine ⟨fun k hfit => ?_, fun hfit k => firstFit_none hascends hfit (Nat.zero_le k)⟩
  obtain ⟨_, hfree, hlowest⟩ := firstFit_some hascends hfit
  exact ⟨hfree, fun j hj => hlowest j (Nat.zero_le j) hj⟩

end Sys2Proof.Machine
end

section
/-! READ_STATUS and READ_SHADOW: frames that send units of data, each of the moment its first byte begins (R65, R177,
R178). -/

namespace Sys2Proof.Machine

/-! ### Frames that answer units of data -/

/-- A unit begun is sent on. -/
theorem nextByte_of_data (spec : FrameSpec) (s : State) {f : Frame} {b : Byte} {rest : List Byte} (ho : f.ops ≠ [])
    (hdata : f.data = b :: rest) : nextByte spec s f = (b, { f with data := rest }) := by
  simp [nextByte, ho, hdata]

/-- A unit begins. -/
theorem nextByte_of_unit {spec : FrameSpec} {s : State} {f : Frame} {b : Byte} {rest : List Byte} (ho : f.ops ≠ [])
    (hdata : f.data = []) (hunit : spec.unit f s = some (b :: rest)) :
    nextByte spec s f = (b, { f with data := rest, units := f.units + 1 }) := by
  simp [nextByte, ho, hdata, hunit]

/-- No unit is left. -/
theorem nextByte_of_none {spec : FrameSpec} {s : State} {f : Frame} (ho : f.ops ≠ []) (hdata : f.data = [])
    (hunit : spec.unit f s = none) : nextByte spec s f = (0, f) := by
  simp [nextByte, ho, hdata, hunit]

/-- What a read frame does in the states of one whole frame begun in `s`, `first` being the byte received after the
command byte: the units of data it sends, its result, and the state `t` it leaves apart from the port. -/
structure AnswersUnits (spec : FrameSpec) (s t : State) (code first : Byte) (units : List (List Byte))
    (result : ResultCode) : Prop where
  command : spec.command = some code
  nonempty : ∀ data ∈ units, data ≠ []
  answered : ∀ f u, SerialOnly s u → f.ops.head? = some first → spec.unit f u = units[f.units]?
  effect : ∀ f u, SerialOnly s u → f.ops.head? = some first → spec.effect f u = ({ t with port := u.port }, result)

/-- The frame has received `first` and still has `rest` to send: what is left of the unit begun, and the later units. -/
def Frame.stillOwes (first : Byte) (units : List (List Byte)) (f : Frame) (rest : List Byte) : Prop :=
  f.ops.head? = some first ∧ rest = f.data ++ (units.drop f.units).flatten

/-- Bytes received leave what is to send. -/
theorem receiveByte_stillOwes (spec : FrameSpec) (ops : List Byte) {f : Frame} {code first : Byte}
    {units : List (List Byte)} {rest : List Byte} (u : State) (hc : f.command = some code)
    (hf : f.stillOwes first units rest) : (receiveByte spec ops u f).stillOwes first units rest := by
  obtain ⟨hhead, hrest⟩ := hf
  exact ⟨by simp [receiveByte, hc, List.head?_append, hhead], by simpa only [receiveByte, hc] using hrest⟩

section
variable {spec : FrameSpec} {s t : State} {code first : Byte} {units : List (List Byte)} {result : ResultCode}
  (h : AnswersUnits spec s t code first units result)
include h

/-- The command byte and one byte more have been received: every unit is still to send. -/
theorem AnswersUnits.begins {ops : List Byte} (hfirst : ops.getD 0 0 = first) (u v : State) :
    (receiveByte spec ops v (receiveByte spec ops u Frame.fresh)).stillOwes first units units.flatten := by
  simpa [Frame.stillOwes, receiveByte, Frame.fresh, h.command] using hfirst

/-- The next byte is the next of what is to send, or 0x00 when nothing is. -/
theorem AnswersUnits.next {f : Frame} {rest : List Byte} {u : State} (hu : SerialOnly s u) (ho : f.ops ≠ [])
    (hf : f.stillOwes first units rest) :
    (nextByte spec u f).1 = rest.headD 0 ∧ (nextByte spec u f).2.stillOwes first units rest.tail := by
  obtain ⟨hhead, rfl⟩ := hf
  have hunit := h.answered f u hu hhead
  cases hdata : f.data with
  | cons b more => simp [nextByte_of_data spec u ho hdata, Frame.stillOwes, hhead]
  | nil =>
    cases hnext : units[f.units]? with
    | none =>
      have hdone : units.drop f.units = [] := List.drop_eq_nil_of_le (List.getElem?_eq_none_iff.1 hnext)
      simp [nextByte_of_none ho hdata (hunit.trans hnext), hdata, hdone, Frame.stillOwes, hhead]
    | some data =>
      obtain ⟨hlt, hget⟩ := List.getElem?_eq_some_iff.1 hnext
      obtain ⟨b, more, rfl⟩ := List.exists_cons_of_ne_nil (h.nonempty data (hget ▸ List.getElem_mem hlt))
      have hdrop : units.drop f.units = (b :: more) :: units.drop (f.units + 1) := by
        rw [List.drop_eq_getElem_cons hlt, hget]
      simp [nextByte_of_unit ho hdata (hunit.trans hnext), hdrop, Frame.stillOwes, hhead]

/-- The whole frame of at least two bytes sends the units, then 0x00, and leaves `t` with the port of its end. -/
theorem AnswersUnits.whole (hidle : s.port.selected = false) {ops : List Byte} (hfirst : ops.getD 0 0 = first)
    {extra n : Nat} (hcount : 1 + ops.length + extra = n + 2) :
    runFrame spec ops (.whole extra) s = { t with port := s.exchanged units.flatten (n + 2) result } := by
  obtain ⟨f, hf, hc, _, hhead, _⟩ := exchangeBytes_data h.command ops units.flatten s
    (Frame.stillOwes first units) (fun u v _ _ => h.begins hfirst u v)
    (fun f rest u _ hc _ hs => receiveByte_stillOwes spec ops u hc hs) (fun f rest u hu _ ho hs => h.next hu ho hs) n
  have hlisted : spec.listed ops + extra = n + 2 := by
    simpa only [FrameSpec.listed, h.command] using hcount
  simp only [runFrame, hidle, Bool.false_eq_true, if_false, hlisted]
  rw [hf, closeFrame_of_frame rfl hc h.command, h.effect f _ (amid_serialOnly s _ _ _) hhead]
  rfl

end

/-! ### READ_STATUS -/

/-- The bytes of Table 10-4. -/
theorem State.statusBytes_eq (s : State) : s.statusBytes =
    [0x74, 0x20, 0x10, s.monitor.cause.code, s.monitor.state.code, s.drain.state.code,
      BitVec.ofNat 8 s.drain.pointer.val, linkCode s.drain.current, BitVec.ofNat 8 s.depth] ++
    wordBytes s.queue.lossCount ++ wordBytes s.queue.nextSeq ++ wordBytes s.time.stamp ++
    wordBytes (BitVec.ofNat 16 (4096 - (s.alloc.map Extent.length).sum)) ++
    wordBytes (BitVec.ofNat 16 (largestFree 0 s.alloc)) := rfl

theorem SerialOnly.statusBytes {s u : State} (h : SerialOnly s u) : u.statusBytes = s.statusBytes := by
  rw [h]
  rfl

theorem SerialOnly.eq_with_port {s u : State} (h : SerialOnly s u) : u = { s with port := u.port } := by
  rw [h]

/-- READ_STATUS takes its data once. -/
theorem readStatusFrame_unit (f : Frame) (s : State) :
    readStatusFrame.unit f s = if f.units = 0 then some s.statusBytes else none := rfl

/-- READ_STATUS sends one unit, whatever is clocked in with it. -/
theorem readStatusFrame_answers (s : State) (first : Byte) :
    AnswersUnits readStatusFrame s s 0x01 first [s.statusBytes] .ok where
  command := rfl
  nonempty := by simp [State.statusBytes_eq]
  answered f u hu _ := by
    rw [readStatusFrame_unit, hu.statusBytes]
    cases f.units <;> simp
  effect f u hu _ := congrArg (·, ResultCode.ok) hu.eq_with_port

/-- The whole frame of READ_STATUS; a frame of the command byte alone ends before any data. -/
theorem readStatus_whole {s : State} (hidle : s.port.selected = false) (extra : Nat) :
    runFrame readStatusFrame [] (.whole extra) s = { s with port := s.exchanged s.statusBytes (1 + extra) .ok } := by
  cases extra with
  | zero =>
    simp only [runFrame, hidle, Bool.false_eq_true, if_false]
    rw [show readStatusFrame.listed [] + 0 = 1 from rfl, exchangeBytes_one rfl [] s.statusBytes s]
    rfl
  | succ n =>
    rw [(readStatusFrame_answers s 0).whole hidle rfl (show 1 + 0 + (n + 1) = n + 2 by omega),
      show 1 + (n + 1) = n + 2 by omega, List.flatten_singleton]

/-- A byte of READ_STATUS after its command byte. -/
theorem readStatus_byte {s : State} {f : Frame} (hbetween : s.betweenBytes) (hf : s.port.frame = some f)
    (hc : f.command = some 0x01) {b : Byte} {g : Frame}
    (hnext : nextByte readStatusFrame (endByte readStatusFrame [] s) { f with ops := f.ops ++ [0] } = (b, g)) :
    runFrame readStatusFrame [] .byte s = { s with port := { s.port with
      frame := some g
      out := b
      sent := s.port.sent ++ [s.port.out] } } := by
  have hreceived : receiveByte readStatusFrame [] s f = { f with ops := f.ops ++ [0] } := by
    simp [receiveByte, hc, readStatusFrame]
  rw [runFrame, exchangeByte_eq [] hbetween (by simp [FrameSpec.fits, hf, hc, readStatusFrame])
    (by simp [FrameSpec.completes, readStatusFrame])]
  simp only [beginByte, endByte, hf, Option.map_some, hreceived] at hnext ⊢
  rw [hnext]

/-- Settles O15: the whole frame answers one unit (`readStatus_whole`); in parts, the unit is taken when byte 2 begins
and the later bytes come from what was taken; `largestFree` is the longest free run. -/
theorem readStatusReportsOneMoment : Obligations.ReadStatusReportsOneMoment := by
  refine ⟨fun extra s hidle => congrArg Host.Outcome.next (readStatus_whole hidle extra), fun s f hf hc => ⟨?finish,
    fun hbetween hops hunits hdata => ?first, fun hbetween hops b rest hdata => ?later⟩,
    fun alloc hwithin hapart => ?longest⟩
  case finish => exact congrArg Host.Outcome.next (runFrame_finish hf hc rfl [])
  case first =>
    have hunit : readStatusFrame.unit { f with ops := f.ops ++ [0] } (endByte readStatusFrame [] s) =
        some (0x74 :: s.statusBytes.tail) := by
      rw [readStatusFrame_unit, if_pos hunits, (endByte_serialOnly _ [] s).statusBytes]
      rfl
    have hbyte := readStatus_byte hbetween hf hc (nextByte_of_unit (by simp) hdata hunit)
    rw [hops, hunits] at hbyte
    exact congrArg Host.Outcome.next hbyte
  case later =>
    exact congrArg Host.Outcome.next (readStatus_byte hbetween hf hc (nextByte_of_data _ _ (by simp) hdata))
  case longest =>
    have hascends := ascendsFrom_zero hwithin hapart
    obtain ⟨k, _, hfree⟩ := exists_freeRun_largestFree hascends
    exact ⟨⟨k, hfree⟩, fun n k => le_largestFree hascends (Nat.zero_le k)⟩

/-! ### READ_SHADOW -/

/-- The units READ_SHADOW sends for a count: the words from the pointer on, wrapping past 4095 (R65). -/
def State.shadowUnits (s : State) (count : Nat) : List (List Byte) :=
  (List.range count).map fun k => shadowWordBytes (shadowGet s.shadow ((s.shadowPointer.toNat + k) % 4096))

/-- The shadow pointer `k` indices on, wrapping past 4095. -/
theorem shadowPointer_add (p : BitVec 12) (k : Nat) : p + BitVec.ofNat 12 k = BitVec.ofNat 12 ((p.toNat + k) % 4096) :=
  BitVec.eq_of_toNat_eq (by simp)

theorem shadowWordBytes_ne_nil (word : Option Word) : shadowWordBytes word ≠ [] := by
  cases word <;> simp [shadowWordBytes]

theorem shadowCount_eq {n : Byte} (h : 1 ≤ n.toNat ∧ n.toNat ≤ 64) : shadowCount n = some n.toNat := if_pos h

theorem shadowCount_eq_none {n : Byte} (h : ¬(1 ≤ n.toNat ∧ n.toNat ≤ 64)) : shadowCount n = none := if_neg h

theorem readShadowFrame_answers (s : State) {n : Byte} (h : 1 ≤ n.toNat ∧ n.toNat ≤ 64) :
    AnswersUnits readShadowFrame s
      { s with shadowPointer := BitVec.ofNat 12 ((s.shadowPointer.toNat + n.toNat) % 4096) } 0x43 n
      (s.shadowUnits n.toNat) .ok where
  command := rfl
  nonempty := by simp [State.shadowUnits, shadowWordBytes_ne_nil]
  answered f u hu hhead := by
    obtain ⟨rest, ho⟩ := exists_cons_of_head hhead
    rw [hu.eq_with_port]
    by_cases hlt : f.units < n.toNat <;>
      simp [readShadowFrame, ho, shadowCount_eq h, State.shadowUnits, hlt]
  effect f u hu hhead := by
    obtain ⟨rest, ho⟩ := exists_cons_of_head hhead
    rw [hu.eq_with_port]
    simp only [readShadowFrame, ho, shadowCount_eq h, shadowPointer_add]

theorem readShadowFrame_refuses (s : State) {n : Byte} (h : ¬(1 ≤ n.toNat ∧ n.toNat ≤ 64)) :
    AnswersUnits readShadowFrame s s 0x43 n [] .badRange where
  command := rfl
  nonempty := by simp
  answered f u _ hhead := by
    obtain ⟨rest, ho⟩ := exists_cons_of_head hhead
    simp [readShadowFrame, ho, shadowCount_eq_none h]
  effect f u hu hhead := by
    obtain ⟨rest, ho⟩ := exists_cons_of_head hhead
    simp only [readShadowFrame, ho, shadowCount_eq_none h]
    exact congrArg (·, ResultCode.badRange) hu.eq_with_port

/-- Settles O19: a count of 1 to 64 answers the words from the pointer on, another count nothing. -/
theorem readShadowReturnsConsecutiveWords : Obligations.ReadShadowReturnsConsecutiveWords := by
  intro s n rest extra hidle
  have hcount : 2 + rest.length + extra = rest.length + extra + 2 := by omega
  have hlisted : 1 + (n :: rest).length + extra = rest.length + extra + 2 := by
    rw [List.length_cons]
    omega
  rw [hcount]
  exact ⟨fun h => congrArg Host.Outcome.next ((readShadowFrame_answers s h).whole hidle rfl hlisted),
    fun h => congrArg Host.Outcome.next ((readShadowFrame_refuses s h).whole hidle rfl hlisted)⟩

end Sys2Proof.Machine
end

section
/-! The shadow pointer (R64): every command but SET_SHADOW_POINTER, READ_SHADOW and the full resets keeps it. -/

namespace Sys2Proof.Machine

/-- The two states agree in the shadow pointer. -/
def State.SamePointer (s t : State) : Prop := t.shadowPointer = s.shadowPointer

theorem State.SamePointer.refl (s : State) : s.SamePointer s := rfl

/-! ### Frames -/

/-- A frame keeps the shadow pointer, or leaves what its effect makes of it. -/
theorem runFrame_shadowPointer (spec : FrameSpec) (ops : List Byte) (act : FrameAct) (s : State) :
    s.SamePointer (runFrame spec ops act s) ∨
      ∃ f p, (runFrame spec ops act s).shadowPointer = (spec.effect f { s with port := p }).1.shadowPointer := by
  rcases runFrame_cases spec ops act s with ⟨p, hp⟩ | ⟨f, p, p', hp⟩
  · exact .inl (by rw [hp]; exact .refl s)
  · exact .inr ⟨f, p, by rw [hp]⟩

/-- A frame keeps the shadow pointer where the effect of its command does. -/
theorem runFrame_samePointer {spec : FrameSpec} (h : ∀ f u, State.SamePointer u (spec.effect f u).1)
    (ops : List Byte) (act : FrameAct) (s : State) : Answers (.next (runFrame spec ops act s)) s.SamePointer := by
  refine .next ?_
  rcases runFrame_shadowPointer spec ops act s with hsame | ⟨f, p, hp⟩
  · exact hsame
  · exact hp.trans (h f { s with port := p })

theorem plainFrame_samePointer {code : Byte} {effect : List Byte → State → State × ResultCode}
    (h : ∀ ops u, State.SamePointer u (effect ops u).1) (ops : List Byte) (act : FrameAct) (s : State) :
    Answers (.next (runFrame (plainFrame code effect) ops act s)) s.SamePointer :=
  runFrame_samePointer (fun f u => h f.ops u) ops act s

/-! ### The effects of the frames -/

theorem readNoticeFrame_samePointer (f : Frame) (s : State) : s.SamePointer (readNoticeFrame.effect f s).1 := by
  simp only [readNoticeFrame]
  (repeat' split) <;> simp [State.SamePointer]

theorem clearNoticeEffect_samePointer (ops : List Byte) (s : State) : s.SamePointer (clearNoticeEffect ops s).1 := by
  unfold clearNoticeEffect
  split <;> simp [State.SamePointer]

theorem setNoticeMaskEffect_samePointer (ops : List Byte) (s : State) :
    s.SamePointer (setNoticeMaskEffect ops s).1 := by
  unfold setNoticeMaskEffect
  split <;> exact .refl s

theorem setOptionsEffect_samePointer (ops : List Byte) (s : State) : s.SamePointer (setOptionsEffect ops s).1 := by
  unfold setOptionsEffect
  (repeat' split) <;> exact .refl s

theorem setTimebaseEffect_samePointer (ops : List Byte) (s : State) : s.SamePointer (setTimebaseEffect ops s).1 := by
  unfold setTimebaseEffect
  (repeat' split) <;> exact .refl s

theorem State.regionCommand_samePointer {s : State} (index : Byte) (allowed : Region → Bool)
    {effect : Fin 32 → State} (h : ∀ r, s.SamePointer (effect r)) :
    s.SamePointer (s.regionCommand index allowed effect).1 := by
  unfold State.regionCommand
  (repeat' split)
  · exact .refl s
  · exact h _
  · exact .refl s

theorem stageRegionEffect_samePointer (ops : List Byte) (s : State) : s.SamePointer (stageRegionEffect ops s).1 := by
  unfold stageRegionEffect
  split <;> exact .refl s

theorem commitRegionEffect_samePointer (ops : List Byte) (s : State) :
    s.SamePointer (commitRegionEffect ops s).1 := by
  unfold commitRegionEffect
  (repeat' split) <;> exact .refl s

theorem readRegionFrame_samePointer (f : Frame) (s : State) : s.SamePointer (readRegionFrame.effect f s).1 := by
  simp only [readRegionFrame]
  split <;> exact .refl s

theorem State.enableRegion_samePointer (s : State) (r : Fin 32) : s.SamePointer (s.enableRegion r) := by
  unfold State.enableRegion
  (repeat' split) <;> simp [State.SamePointer]

theorem enableRegionEffect_samePointer (ops : List Byte) (s : State) :
    s.SamePointer (enableRegionEffect ops s).1 := by
  unfold enableRegionEffect
  split
  · exact .refl s
  · exact State.regionCommand_samePointer _ _ s.enableRegion_samePointer

theorem State.disableRegion_samePointer (s : State) (r : Fin 32) : s.SamePointer (s.disableRegion r) := by
  unfold State.disableRegion
  dsimp only
  split <;> simp [State.SamePointer]

theorem disableRegionEffect_samePointer (ops : List Byte) (s : State) :
    s.SamePointer (disableRegionEffect ops s).1 := by
  unfold disableRegionEffect
  split
  · exact .refl s
  · exact State.regionCommand_samePointer _ _ s.disableRegion_samePointer

theorem releaseRegionEffect_samePointer (ops : List Byte) (s : State) :
    s.SamePointer (releaseRegionEffect ops s).1 := by
  unfold releaseRegionEffect
  split
  · exact .refl s
  · exact State.regionCommand_samePointer _ _ fun _ => .refl s

theorem setSenseEffect_samePointer (ops : List Byte) (s : State) : s.SamePointer (setSenseEffect ops s).1 := by
  unfold setSenseEffect
  split
  · exact State.regionCommand_samePointer _ _ fun _ => .refl s
  · exact .refl s

theorem clearTripEffect_samePointer (ops : List Byte) (s : State) : s.SamePointer (clearTripEffect ops s).1 := by
  unfold clearTripEffect
  split
  · exact .refl s
  · exact State.regionCommand_samePointer _ _ fun _ => .refl s

theorem clearCountsEffect_samePointer (ops : List Byte) (s : State) : s.SamePointer (clearCountsEffect ops s).1 := by
  unfold clearCountsEffect
  split
  · exact .refl s
  · exact State.regionCommand_samePointer _ _ fun _ => .refl s

theorem State.setThresholds_samePointer (s : State) (alert trip : Word) (r : Fin 32) :
    s.SamePointer (s.setThresholds alert trip r) := by
  unfold State.setThresholds
  dsimp only
  split <;> simp [State.SamePointer]

theorem setThresholdsEffect_samePointer (ops : List Byte) (s : State) :
    s.SamePointer (setThresholdsEffect ops s).1 := by
  unfold setThresholdsEffect
  (repeat' split)
  · exact .refl s
  · exact .refl s
  · exact s.setThresholds_samePointer _ _ _
  · exact .refl s
  · exact .refl s

theorem loadLinkEffect_samePointer (ops : List Byte) (s : State) : s.SamePointer (loadLinkEffect ops s).1 := by
  unfold loadLinkEffect
  dsimp only
  (repeat' split) <;> simp [State.SamePointer]

theorem readLinkFrame_samePointer (f : Frame) (s : State) : s.SamePointer (readLinkFrame.effect f s).1 := by
  simp only [readLinkFrame]
  split <;> exact .refl s

theorem unloadLinkEffect_samePointer (ops : List Byte) (s : State) : s.SamePointer (unloadLinkEffect ops s).1 := by
  unfold unloadLinkEffect
  (repeat' split) <;> exact .refl s

theorem startDrainEffect_samePointer (ops : List Byte) (s : State) : s.SamePointer (startDrainEffect ops s).1 := by
  unfold startDrainEffect State.continueDrain State.startDrainAt
  dsimp only
  (repeat' split) <;> simp [State.SamePointer]

theorem stopDrainEffect_samePointer (ops : List Byte) (s : State) : s.SamePointer (stopDrainEffect ops s).1 := by
  unfold stopDrainEffect
  (repeat' split) <;> simp [State.SamePointer]

theorem flushEffect_samePointer (ops : List Byte) (s : State) : s.SamePointer (flushEffect ops s).1 := by
  unfold flushEffect
  dsimp only
  (repeat' split) <;> simp [State.SamePointer]

theorem abortDrainEffect_samePointer (ops : List Byte) (s : State) : s.SamePointer (abortDrainEffect ops s).1 := by
  unfold abortDrainEffect
  dsimp only
  (repeat' split) <;> simp [State.SamePointer]

theorem popEventFrame_samePointer (f : Frame) (s : State) : s.SamePointer (popEventFrame.effect f s).1 := by
  simp only [popEventFrame]
  (repeat' split) <;> simp [State.SamePointer]

theorem discardQueueEffect_samePointer (ops : List Byte) (s : State) :
    s.SamePointer (discardQueueEffect ops s).1 := by
  unfold discardQueueEffect
  split <;> simp [State.SamePointer]

theorem armEffect_samePointer (ops : List Byte) (s : State) : s.SamePointer (armEffect ops s).1 := by
  unfold armEffect
  (repeat' split) <;> simp [State.SamePointer, State.armMonitor]

theorem disarmEffect_samePointer (ops : List Byte) (s : State) : s.SamePointer (disarmEffect ops s).1 := by
  unfold disarmEffect
  split <;> simp [State.SamePointer, State.disarmMonitor]

theorem resumeEffect_samePointer (ops : List Byte) (s : State) : s.SamePointer (resumeEffect ops s).1 := by
  unfold resumeEffect
  (repeat' split) <;> exact .refl s

theorem execBadCommand_samePointer (command : Option Byte) (act : FrameAct) (s : State) :
    Answers (execBadCommand command act s) s.SamePointer := by
  unfold execBadCommand
  split
  · exact .next (.refl s)
  · exact runFrame_samePointer (fun _ u => .refl u) _ act s

/-! ### The master bus and the Prime Engine -/

theorem execMasterCycleArrives_samePointer (moe mwe : Bool) (addr : Addr) (enables : BitVec 2) (data : Word)
    (parity : BitVec 2) (s : State) :
    Answers (execMasterCycleArrives moe mwe addr enables data parity s) s.SamePointer := by
  unfold execMasterCycleArrives
  split <;> exact .next (by simp [State.SamePointer])

theorem execWriteGrant_samePointer (s : State) : Answers (execWriteGrant s) s.SamePointer := by
  unfold execWriteGrant
  dsimp only
  (repeat' split) <;> exact .next (by simp [State.SamePointer, State.forward])

theorem execReadGrant_samePointer (s : State) : Answers (execReadGrant s) s.SamePointer := by
  unfold execReadGrant
  (repeat' split) <;> exact .next (.refl s)

theorem execPrimeGrant_samePointer (s : State) : Answers (execPrimeGrant s) s.SamePointer := by
  unfold execPrimeGrant
  (repeat' split) <;> exact .next (by simp [State.SamePointer, State.issuePrime])

theorem execWriteCompletion_samePointer (s : State) : Answers (execWriteCompletion s) s.SamePointer := by
  unfold execWriteCompletion
  (repeat' split) <;> exact .next (by simp [State.SamePointer])

theorem execReadCompletion_samePointer (data : Word) (parity : BitVec 2) (s : State) :
    Answers (execReadCompletion data parity s) s.SamePointer := by
  unfold execReadCompletion
  (repeat' split) <;> exact .next (by simp [State.SamePointer])

theorem execPrimeReadCompletion_samePointer (data : Word) (parity : BitVec 2) (s : State) :
    Answers (execPrimeReadCompletion data parity s) s.SamePointer := by
  unfold execPrimeReadCompletion
  (repeat' split) <;> exact .next (by simp [State.SamePointer])

/-! ### The drain, the lines and the Timebase -/

theorem execDrainGrant_samePointer (s : State) : Answers (execDrainGrant s) s.SamePointer := by
  unfold execDrainGrant
  split <;> exact .next (by simp [State.SamePointer])

theorem execDrainWriteCompletion_samePointer (s : State) : Answers (execDrainWriteCompletion s) s.SamePointer := by
  unfold execDrainWriteCompletion
  (repeat' split) <;> exact .next (by simp [State.SamePointer])

theorem execRecordWriteCompletion_samePointer (s : State) : Answers (execRecordWriteCompletion s) s.SamePointer := by
  unfold execRecordWriteCompletion
  (repeat' split) <;> exact .next (by simp [State.SamePointer])

theorem execPadWriteCompletion_samePointer (s : State) : Answers (execPadWriteCompletion s) s.SamePointer := by
  unfold execPadWriteCompletion
  (repeat' split) <;> exact .next (by simp [State.SamePointer])

theorem execBurstEnd_samePointer (s : State) : Answers (execBurstEnd s) s.SamePointer := by
  unfold execBurstEnd
  split <;> exact .next (by simp [State.SamePointer])

theorem execFlushComplete_samePointer (s : State) : Answers (execFlushComplete s) s.SamePointer := by
  unfold execFlushComplete
  split <;> exact .next (by simp [State.SamePointer])

theorem execAbortCarriedOut_samePointer (s : State) : Answers (execAbortCarriedOut s) s.SamePointer := by
  unfold execAbortCarriedOut
  split <;> exact .next (by simp [State.SamePointer])

theorem execSnapEdge_samePointer (s : State) : Answers (execSnapEdge s) s.SamePointer := by
  unfold execSnapEdge State.startFreeze
  dsimp only
  (repeat' split) <;> exact .next (by simp [State.SamePointer])

theorem execDecayTick_samePointer (s : State) : Answers (execDecayTick s) s.SamePointer := by
  unfold execDecayTick
  split <;> exact .next (by simp [State.SamePointer])

theorem execSettleExpiry_samePointer (s : State) : Answers (execSettleExpiry s) s.SamePointer := by
  unfold execSettleExpiry
  split <;> exact .next (by simp [State.SamePointer])

theorem execTclkPeriod_samePointer (s : State) : Answers (execTclkPeriod s) s.SamePointer := by
  unfold execTclkPeriod
  split <;> exact .next (by simp [State.SamePointer])

/-! ### Resets -/

theorem State.fullReset_shadowPointer (s : State) (cause : ResetCause) : (s.fullReset cause).shadowPointer = 0 := by
  simp [State.fullReset]

theorem State.partialReset_shadowPointer (s : State) : s.partialReset.shadowPointer = s.shadowPointer := by
  simp [State.partialReset]

theorem execPartialReset_samePointer (s : State) : Answers (execPartialReset s) s.SamePointer := by
  unfold execPartialReset
  split
  · exact .next s.partialReset_shadowPointer
  · exact .next (.refl s)

/-! ### Every command -/

/-- The commands R64 names: the two that set the shadow pointer or advance it, and the full resets. -/
def movesShadowPointer : Instr → Bool
  | .setShadowPointer _ _ | .readShadow _ _ | .fullReset | .reset _ | .powerOnReset _ _ => true
  | _ => false

theorem exec_samePointer (c : Instr) (s : State) (h : movesShadowPointer c = false) :
    Answers (exec c s) s.SamePointer := by
  cases c with
  | setShadowPointer | readShadow | fullReset | reset | powerOnReset => cases h
  | readStatus act => exact runFrame_samePointer (fun _ u => .refl u) [] act s
  | readNotice act => exact runFrame_samePointer readNoticeFrame_samePointer [] act s
  | clearNotice ops act => exact plainFrame_samePointer clearNoticeEffect_samePointer ops act s
  | setNoticeMask ops act => exact plainFrame_samePointer setNoticeMaskEffect_samePointer ops act s
  | stageRegion ops act => exact plainFrame_samePointer stageRegionEffect_samePointer ops act s
  | commitRegion ops act => exact plainFrame_samePointer commitRegionEffect_samePointer ops act s
  | readRegion ops act => exact runFrame_samePointer readRegionFrame_samePointer ops act s
  | enableRegion ops act => exact plainFrame_samePointer enableRegionEffect_samePointer ops act s
  | disableRegion ops act => exact plainFrame_samePointer disableRegionEffect_samePointer ops act s
  | releaseRegion ops act => exact plainFrame_samePointer releaseRegionEffect_samePointer ops act s
  | setSense ops act => exact plainFrame_samePointer setSenseEffect_samePointer ops act s
  | clearTrip ops act => exact plainFrame_samePointer clearTripEffect_samePointer ops act s
  | clearCounts ops act => exact plainFrame_samePointer clearCountsEffect_samePointer ops act s
  | setThresholds ops act => exact plainFrame_samePointer setThresholdsEffect_samePointer ops act s
  | loadLink ops act => exact plainFrame_samePointer loadLinkEffect_samePointer ops act s
  | readLink ops act => exact runFrame_samePointer readLinkFrame_samePointer ops act s
  | startDrain ops act => exact plainFrame_samePointer startDrainEffect_samePointer ops act s
  | startDrainContinue act => exact plainFrame_samePointer startDrainEffect_samePointer [0xFF] act s
  | stopDrain act => exact plainFrame_samePointer stopDrainEffect_samePointer [] act s
  | flush act => exact plainFrame_samePointer flushEffect_samePointer [] act s
  | abortDrain act => exact plainFrame_samePointer abortDrainEffect_samePointer [] act s
  | popEvent act => exact runFrame_samePointer popEventFrame_samePointer [] act s
  | discardQueue act => exact plainFrame_samePointer discardQueueEffect_samePointer [] act s
  | unloadLink ops act => exact plainFrame_samePointer unloadLinkEffect_samePointer ops act s
  | arm act => exact plainFrame_samePointer armEffect_samePointer [] act s
  | disarm act => exact plainFrame_samePointer disarmEffect_samePointer [] act s
  | resume act => exact plainFrame_samePointer resumeEffect_samePointer [] act s
  | setTimebase ops act => exact plainFrame_samePointer setTimebaseEffect_samePointer ops act s
  | setOptions ops act => exact plainFrame_samePointer setOptionsEffect_samePointer ops act s
  | badCommand command act => exact execBadCommand_samePointer command act s
  | masterCycleArrives moe mwe addr enables data parity =>
    exact execMasterCycleArrives_samePointer moe mwe addr enables data parity s
  | masterCycleWithdrawn | masterCycleEnds => exact .next (by simp [State.SamePointer])
  | writeGrant => exact execWriteGrant_samePointer s
  | readGrant => exact execReadGrant_samePointer s
  | primeGrant => exact execPrimeGrant_samePointer s
  | drainGrant => exact execDrainGrant_samePointer s
  | writeCompletion => exact execWriteCompletion_samePointer s
  | readCompletion data parity => exact execReadCompletion_samePointer data parity s
  | primeReadCompletion data parity => exact execPrimeReadCompletion_samePointer data parity s
  | drainWriteCompletion => exact execDrainWriteCompletion_samePointer s
  | recordWriteCompletion => exact execRecordWriteCompletion_samePointer s
  | padWriteCompletion => exact execPadWriteCompletion_samePointer s
  | burstEnd => exact execBurstEnd_samePointer s
  | snapEdge => exact execSnapEdge_samePointer s
  | snapLineFalls | rstLineRises => exact .next (.refl s)
  | partialReset => exact execPartialReset_samePointer s
  | baseTick | lossPlacement => exact .next (by simp [State.SamePointer])
  | decayTick => exact execDecayTick_samePointer s
  | settleExpiry => exact execSettleExpiry_samePointer s
  | flushComplete => exact execFlushComplete_samePointer s
  | abortCarriedOut => exact execAbortCarriedOut_samePointer s
  | tclkPeriod => exact execTclkPeriod_samePointer s

theorem execFullReset_shadowPointer (s : State) :
    Answers (execFullReset s) fun t => s.SamePointer t ∨ t.shadowPointer = 0 := by
  unfold execFullReset
  split
  · exact .next (.inr (s.fullReset_shadowPointer .lineFull))
  · exact .next (.inl (.refl s))

theorem execReset_shadowPointer (act : FrameAct) (s : State) :
    Answers (execReset act s) fun t => s.SamePointer t ∨ t.shadowPointer = 0 :=
  .next ((runFrame_shadowPointer (plainFrame 0x4F resetEffect) [] act s).imp_right
    fun ⟨_, _, hp⟩ => hp.trans (State.fullReset_shadowPointer _ .command))

theorem Answers.of_next {t : State} {P : State → Prop} {o : Host.Outcome State Fault Refusal} (h : Answers o P)
    (ho : o = .next t) : P t := by
  obtain ⟨u, hu, hP⟩ := h
  cases hu.symm.trans ho
  exact hP

/-- A command that changes the shadow pointer, and where a full reset leaves it (R64). -/
theorem exec_movesPointer {c : Instr} {s t : State} (h : exec c s = .next t)
    (hmoved : t.shadowPointer ≠ s.shadowPointer) :
    (∃ ops act, c = .setShadowPointer ops act ∨ c = .readShadow ops act) ∨
      t.shadowPointer = 0 ∧ (c = .fullReset ∨ (∃ act, c = .reset act) ∨ ∃ snap rst, c = .powerOnReset snap rst) := by
  cases hmoves : movesShadowPointer c with
  | false => exact absurd ((exec_samePointer c s hmoves).of_next h) hmoved
  | true =>
    unfold movesShadowPointer at hmoves
    split at hmoves
    · next ops act => exact .inl ⟨ops, act, .inl rfl⟩
    · next ops act => exact .inl ⟨ops, act, .inr rfl⟩
    · exact .inr ⟨((execFullReset_shadowPointer s).of_next h).resolve_left hmoved, .inl rfl⟩
    · next act => exact .inr ⟨((execReset_shadowPointer act s).of_next h).resolve_left hmoved, .inr (.inl ⟨act, rfl⟩)⟩
    · next snap rst =>
      have hzero := (Answers.next (s.fullReset_shadowPointer .power) : Answers (execPowerOnReset snap rst s)
        fun t => t.shadowPointer = 0).of_next h
      exact .inr ⟨hzero, .inr (.inr ⟨snap, rst, rfl⟩)⟩
    · cases hmoves

/-- Settles O18: the effect of SET_SHADOW_POINTER on either side of 4095, the resets' values, and
`exec_movesPointer` for the rest. -/
theorem shadowPointerMovesByItsCommands : Obligations.ShadowPointerMovesByItsCommands := by
  refine ⟨fun s hi lo rest h => ⟨fun hin => ?accepted, fun hout => ?refused⟩, State.fullReset_shadowPointer,
    State.partialReset_shadowPointer, fun c s t => exec_movesPointer⟩
  case accepted =>
    have heffect : setShadowPointerEffect (hi :: lo :: rest) s =
        ({ s with shadowPointer := (wordOf hi lo).setWidth 12 }, .ok) := if_pos (Nat.lt_succ_of_le hin)
    refine congrArg Host.Outcome.next ((runFrame_plain_finish h _).trans ?_)
    rw [heffect]
  case refused =>
    have heffect : setShadowPointerEffect (hi :: lo :: rest) s = (s, .badRange) := if_neg (Nat.not_lt.2 hout)
    refine congrArg Host.Outcome.next ((runFrame_plain_finish h _).trans ?_)
    rw [heffect]
    rfl

end Sys2Proof.Machine
end

section
/-! The Change Detector on a completed write (R67, R69, R71 to R74): what a decided change counts and reports, and what a
write makes of a word's entry in the Settle Table. -/

namespace Sys2Proof.Machine

/-! ### A decided change -/

theorem State.recordChange_regions (s : State) (r : Fin 32) (a : Addr) (old new : Word) (settled unsettled : Bool) :
    (s.recordChange r a old new settled unsettled).regions =
      s.regions.set r { s.region r with changesRecorded := satInc (s.region r).changesRecorded } := by
  rw [State.recordChange, State.produce_eq]
  rfl

/-- A decided change counts in its region and in no other. -/
theorem State.recordChange_region (s : State) (r : Fin 32) (a : Addr) (old new : Word) (settled unsettled : Bool)
    (i : Fin 32) : (s.recordChange r a old new settled unsettled).region i =
      if r = i then { s.region r with changesRecorded := satInc (s.region r).changesRecorded } else s.region i := by
  rw [State.region, State.recordChange_regions, vector_get_set, State.region, State.region]

/-- Outside RUN a decided change is not recorded (R82). -/
theorem State.recordChange_of_not_run {s : State} (h : s.monitor.state ≠ .run) (r : Fin 32) (a : Addr)
    (old new : Word) (settled unsettled : Bool) :
    (s.recordChange r a old new settled unsettled).queue = s.queue ∧
    (s.recordChange r a old new settled unsettled).notices = s.notices := by
  rw [State.recordChange, State.produce_of_not_run (by exact h)]
  exact ⟨rfl, rfl⟩

/-- In RUN a decided change is recorded by its report (R86). -/
theorem State.recordChange_of_run {s : State} (h : s.monitor.state = .run) (r : Fin 32) (a : Addr) (old new : Word)
    (settled unsettled : Bool) :
    (s.recordChange r a old new settled unsettled).queue =
      (s.createRecord (changeReport r a old new settled unsettled)).queue ∧
    (s.recordChange r a old new settled unsettled).notices =
      (s.createRecord (changeReport r a old new settled unsettled)).notices := by
  rw [State.recordChange, State.produce, if_pos (by exact h)]
  exact ⟨State.createRecord_queue_congr (State.modRegion_queue ..) (State.modRegion_time ..) _,
    State.createRecord_notices_congr (State.modRegion_queue ..) (State.modRegion_notices ..) _⟩

/-! ### One entry of the Settle Table -/

/-- The entry of a word whose address no other entry has. -/
theorem State.settleEntry_of_only {s : State} {a : Addr} {before after : List SettleEntry} {e : SettleEntry}
    (hsettle : s.settle = before ++ e :: after) (ha : e.addr = a) (honly : ∀ e' ∈ before ++ after, e'.addr ≠ a) :
    s.settleEntry a = some e := by
  rw [State.settleEntry, hsettle, List.find?_append, List.find?_eq_none.2, List.find?_cons_of_pos (by simpa using ha),
    Option.none_or]
  exact fun e' he' => by simpa using honly e' (List.mem_append_left _ he')

/-- Only the word's own entry leaves the table. -/
theorem State.dropEntry_settle_of_only {s : State} {a : Addr} {before after : List SettleEntry} {e : SettleEntry}
    (hsettle : s.settle = before ++ e :: after) (ha : e.addr = a) (honly : ∀ e' ∈ before ++ after, e'.addr ≠ a) :
    (s.dropEntry a).settle = before ++ after := by
  have hkept : (before ++ after).filter (fun e' => e'.addr ≠ a) = before ++ after :=
    List.filter_eq_self.2 fun e' he' => by simpa using honly e' he'
  rw [State.dropEntry_settle, hsettle, List.filter_append, List.filter_cons_of_neg (by simpa using ha),
    ← List.filter_append, hkept]

/-- Only the word's own entry is restarted. -/
theorem map_restartEntry_of_only {a : Addr} {before after : List SettleEntry} {e : SettleEntry} (ha : e.addr = a)
    (honly : ∀ e' ∈ before ++ after, e'.addr ≠ a) (candidate : Word) (ticks : Nat) :
    (before ++ e :: after).map (restartEntry a candidate ticks) =
      before ++ { e with candidate := candidate, remaining := ticks } :: after := by
  have hkept : ∀ l : List SettleEntry, (∀ e' ∈ l, e'.addr ≠ a) → l.map (restartEntry a candidate ticks) = l :=
    fun l hl => (List.map_congr_left fun e' he' => if_neg (hl e' he')).trans l.map_id'
  rw [List.map_append, List.map_cons, hkept before fun e' he' => honly e' (List.mem_append_left _ he'),
    hkept after fun e' he' => honly e' (List.mem_append_right _ he'), restartEntry, if_pos ha]

/-! ### What a write makes of it -/

/-- The Change Detector touches the regions, the Settle Table, the queue and the notices alone. -/
theorem State.detect_eq (s : State) (r : Fin 32) (a : Addr) (old new : Word) :
    let t := s.detect r a old new
    t = { s with regions := t.regions, settle := t.settle, queue := t.queue, notices := t.notices } := by
  obtain ⟨hpath, harb, hstaging, hshadow, halloc, hpointer, hprime, hdrain, hmonitor, htime, hport, hpending⟩ :=
    s.detect_frame r a old new
  dsimp only
  rw [← hpath, ← harb, ← hstaging, ← hshadow, ← halloc, ← hpointer, ← hprime, ← hdrain, ← hmonitor, ← htime, ← hport,
    ← hpending]

section
variable {s : State} {r : Fin 32} {a : Addr} {old new : Word}

/-- With settle time 0 a write is decided at once (R69). -/
theorem State.detect_at_once (hzero : (s.region r).cfg.settleTime = 0) :
    s.detect r a old new =
      if sensed (s.region r).cfg old new then s.recordChange r a old new false false else s :=
  if_pos hzero

/-- A write to a word without an entry (R71, R72). -/
theorem State.detect_fresh (hne : (s.region r).cfg.settleTime ≠ 0) (hnone : s.settleEntry a = none) :
    s.detect r a old new =
      if sensed (s.region r).cfg old new then
        if s.settle.length < 16 then
          { s with settle := s.settle ++ [⟨r, a, old, new, (s.region r).cfg.settleTime.toNat⟩] }
        else s.recordChange r a old new false true
      else s := by
  rw [State.detect, if_neg hne, hnone]
  rfl

/-- A write to a settling word (R73, R74). -/
theorem State.detect_settling (hne : (s.region r).cfg.settleTime ≠ 0) {e : SettleEntry}
    (he : s.settleEntry a = some e) :
    s.detect r a old new =
      if new = e.candidate then s
      else if sensed (s.region r).cfg e.confirmed new then
        { s with settle := s.settle.map (restartEntry a new (s.region r).cfg.settleTime.toNat) }
      else (s.dropEntry a).modRegion r fun x => { x with bouncesSuppressed := satInc x.bouncesSuppressed } := by
  rw [State.detect, if_neg hne, he]
  rfl

end

/-- Settles O46: the three ways of `State.detect`, with no settle time, without an entry and with one. -/
theorem changesSettleOrAreRecorded : Obligations.ChangesSettleOrAreRecorded := by
  intro s r a old new x t senses report recorded
  have hsenses : ∀ was is, senses was is ↔ sensed x.cfg was is = true := fun was is => (sensed_iff x.cfg was is).symm
  have hrecorded : ∀ unsettled, t = s.recordChange r a old new false unsettled → recorded unsettled := by
    intro unsettled ht
    dsimp only [recorded]
    rw [ht]
    exact ⟨(State.recordChange_region ..).trans (if_pos rfl),
      fun i hi => (State.recordChange_region ..).trans (if_neg (Ne.symm hi)), by simp,
      fun hidle => State.recordChange_of_not_run hidle .., fun hrun => State.recordChange_of_run hrun ..⟩
  refine ⟨State.detect_eq s r a old new, fun hzero hsense => ?_, fun hzero hsense => ?_, fun hne hnone => ?_,
    fun hne before e after hsettle ha honly => ?_⟩
  · exact hrecorded false ((State.detect_at_once hzero).trans (if_pos ((hsenses ..).1 hsense)))
  · exact (State.detect_at_once hzero).trans (if_neg (mt (hsenses ..).2 hsense))
  · have ht := State.detect_fresh (old := old) (new := new) hne
      (List.find?_eq_none.2 fun e he => by simpa using hnone e he)
    exact ⟨fun hsense => ht.trans (if_neg (mt (hsenses ..).2 hsense)),
      fun hsense hroom => (ht.trans (if_pos ((hsenses ..).1 hsense))).trans (if_pos hroom),
      fun hsense hfull => hrecorded true
        ((ht.trans (if_pos ((hsenses ..).1 hsense))).trans (if_neg (Nat.not_lt.2 hfull)))⟩
  · have ht := State.detect_settling (old := old) (new := new) hne (State.settleEntry_of_only hsettle ha honly)
    refine ⟨fun hsame => ht.trans (if_pos hsame), fun hother hsense => ?restarted, fun hother hsense => ?bounced⟩
    case restarted =>
      rw [← map_restartEntry_of_only ha honly, ← hsettle]
      exact (ht.trans (if_neg hother)).trans (if_pos ((hsenses ..).1 hsense))
    case bounced =>
      rw [← State.dropEntry_settle_of_only hsettle ha honly]
      exact (ht.trans (if_neg hother)).trans (if_neg (mt (hsenses ..).2 hsense))

end Sys2Proof.Machine
end

section
/-! Time (R75, R76, R96, R97, R165 to R167): a base tick moves the counters, decays the accumulators when the countdown
ends, and takes a tick from every settle entry; the rows DECAY_TICK and SETTLE_EXPIRY do one part of it. -/

namespace Sys2Proof.Machine

/-! ### Counts -/

/-- A 16-bit count after `n` more increases, saturating at 65535 (R3). -/
def addCount (c : Word) (n : Nat) : Word := BitVec.ofNat 16 (min 65535 (c.toNat + n))

theorem addCount_zero (c : Word) : addCount c 0 = c := by
  have hmin : min 65535 (c.toNat + 0) = c.toNat := by omega
  rw [addCount, hmin, BitVec.ofNat_toNat, BitVec.setWidth_eq]

theorem satInc_toNat (c : Word) : (satInc c).toNat = min 65535 (c.toNat + 1) := by
  unfold satInc
  split
  · next hfull => rw [hfull]; rfl
  · next hroom =>
    have hlt : c.toNat ≠ 65535 := fun h => hroom (BitVec.eq_of_toNat_eq h)
    have hone : (1 : Word).toNat = 1 := rfl
    rw [BitVec.toNat_add, hone]
    omega

/-- One increase before `n` more. -/
theorem addCount_satInc (c : Word) (n : Nat) : addCount (satInc c) n = addCount c (n + 1) := by
  have hmin : min 65535 (min 65535 (c.toNat + 1) + n) = min 65535 (c.toNat + (n + 1)) := by omega
  rw [addCount, satInc_toNat, hmin, addCount]

/-! ### Decay -/

/-- An accumulator loses the decay step, and no more than it has (R96). -/
theorem decayed_eq (c : Word) (step : Byte) : decayed c step = BitVec.ofNat 16 (c.toNat - step.toNat) := by
  apply BitVec.eq_of_toNat_eq
  unfold decayed
  split
  · next hsmall => rw [Nat.sub_eq_zero_of_le (Nat.le_of_lt hsmall)]; rfl
  · next hlarge =>
    simp only [BitVec.toNat_sub, BitVec.toNat_setWidth, BitVec.toNat_ofNat]
    omega

/-- The record after a decay tick: what is left of the accumulator, and the alert flag where it still reaches its
threshold (R96, R97). -/
theorem Region.decay_eq (step : Byte) (x : Region) :
    x.decay step = { x with
      accumulator := BitVec.ofNat 16 (x.accumulator.toNat - step.toNat)
      alertFlag := x.alertFlag && decide (x.cfg.alertThreshold.toNat ≤ x.accumulator.toNat - step.toNat) } := by
  have hleft : (decayed x.accumulator step).toNat = x.accumulator.toNat - step.toNat := by
    rw [decayed_eq, BitVec.toNat_ofNat]
    omega
  rw [Region.decay, hleft, decayed_eq]

theorem State.decayAll_region (s : State) (r : Fin 32) :
    s.decayAll.region r = (s.region r).decay s.time.decayStep := by
  simp [State.decayAll]

/-- A decay tick touches the regions alone. -/
theorem State.decayAll_eq (s : State) : s.decayAll = { s with regions := s.decayAll.regions } := by
  rw [State.decayAll, State.mapRegions]

/-! ### Expired entries -/

/-- The ticks an entry has left are no part of its record. -/
theorem State.expireEntry_remaining (s : State) (e : SettleEntry) (n : Nat) :
    s.expireEntry { e with remaining := n } = s.expireEntry e := rfl

/-- The report of an expired entry: a SETTLED change from the confirmed to the candidate value (R76). -/
def SettleEntry.report (e : SettleEntry) : Report := changeReport e.region e.addr e.confirmed e.candidate true false

/-- An expired entry counts one change in its region. -/
theorem State.expireEntry_region (s : State) (e : SettleEntry) (i : Fin 32) :
    (s.expireEntry e).region i = if e.region = i then
      { s.region e.region with changesRecorded := satInc (s.region e.region).changesRecorded } else s.region i :=
  State.recordChange_region ..

theorem State.expireEntry_of_not_run {s : State} (h : s.monitor.state ≠ .run) (e : SettleEntry) :
    (s.expireEntry e).queue = s.queue ∧ (s.expireEntry e).notices = s.notices :=
  State.recordChange_of_not_run h ..

theorem State.expireEntry_of_run {s : State} (h : s.monitor.state = .run) (e : SettleEntry) :
    (s.expireEntry e).queue = (s.createRecord e.report).queue ∧
    (s.expireEntry e).notices = (s.createRecord e.report).notices :=
  State.recordChange_of_run h ..

/-- Each expired entry counts one change in its region (R76). -/
theorem State.expireEntries_region (entries : List SettleEntry) (s : State) (r : Fin 32) :
    (entries.foldl State.expireEntry s).region r = { s.region r with
      changesRecorded := addCount (s.region r).changesRecorded (entries.filter fun e => e.region = r).length } := by
  induction entries generalizing s with
  | nil => rw [List.foldl_nil, List.filter_nil, List.length_nil, addCount_zero]
  | cons e rest ih =>
    rw [List.foldl_cons, ih, State.expireEntry_region]
    by_cases hr : e.region = r
    · rw [if_pos hr, List.filter_cons_of_pos (by simpa using hr), List.length_cons, ← addCount_satInc, hr]
    · rw [if_neg hr, List.filter_cons_of_neg (by simpa using hr)]

/-- Outside RUN expired entries are not recorded (R82). -/
theorem State.expireEntries_of_not_run (entries : List SettleEntry) {s : State} (h : s.monitor.state ≠ .run) :
    (entries.foldl State.expireEntry s).queue = s.queue ∧ (entries.foldl State.expireEntry s).notices = s.notices := by
  induction entries generalizing s with
  | nil => exact ⟨rfl, rfl⟩
  | cons e rest ih =>
    obtain ⟨hqueue, hnotices⟩ := State.expireEntry_of_not_run h e
    obtain ⟨hqueue', hnotices'⟩ := ih (s := s.expireEntry e) (by simpa using h)
    exact ⟨hqueue'.trans hqueue, hnotices'.trans hnotices⟩

/-- In RUN the expired entries are recorded one after another, on the queue and the time stamp they find (R76). -/
theorem State.expireEntries_of_run (entries : List SettleEntry) {s u : State} (h : s.monitor.state = .run)
    (hqueue : s.queue = u.queue) (htime : s.time = u.time) :
    (entries.foldl State.expireEntry s).queue =
      (entries.foldl (fun (v : State) e => v.createRecord e.report) u).queue := by
  induction entries generalizing s u with
  | nil => exact hqueue
  | cons e rest ih =>
    obtain ⟨hfirst, -⟩ := State.expireEntry_of_run h e
    exact ih (by simpa using h) (hfirst.trans (State.createRecord_queue_congr hqueue htime _)) (by simpa using htime)

/-! ### A base tick -/

/-- The entries whose last tick a base tick takes, in creation order (R75, R76). -/
def State.expired (s : State) : List SettleEntry := s.settle.filter fun e => e.remaining ≤ 1

/-- A base tick before its records: the entries with more than one tick left stay, one tick shorter (R75). -/
def State.shortened (s : State) : State :=
  { s with
    settle := (s.settle.filter fun e => 1 < e.remaining).map
      fun (e : SettleEntry) => { e with remaining := e.remaining - 1 } }

/-- A base tick before the settle entries: the prescale count is 0 and the counters have moved (R166, R167). -/
def State.counted (s : State) : State := ({ s with time := { s.time with count := 0 } } : State).tickCounters

@[simp] theorem State.counted_settle (s : State) : s.counted.settle = s.settle := by simp [State.counted]
@[simp] theorem State.counted_queue (s : State) : s.counted.queue = s.queue := by simp [State.counted]
@[simp] theorem State.counted_notices (s : State) : s.counted.notices = s.notices := by simp [State.counted]
@[simp] theorem State.counted_monitor (s : State) : s.counted.monitor = s.monitor := by simp [State.counted]

/-- The counter and the countdown move by one, and a countdown at its end is loaded again (R166, R167). -/
theorem State.counted_time (s : State) :
    s.counted.time = { s.time with
      count := 0
      stamp := s.time.stamp + 1
      countdown := if s.time.countdown - 1 = 0 then s.time.decayDivider else s.time.countdown - 1 } :=
  State.tickCounters_time _

/-- Every accumulator decays when the countdown ends (R96, R167). -/
theorem State.counted_region (s : State) (r : Fin 32) :
    s.counted.region r =
      if s.time.countdown - 1 = 0 then (s.region r).decay s.time.decayStep else s.region r := by
  unfold State.counted State.tickCounters
  dsimp only
  split
  · exact State.decayAll_region _ r
  · rfl

/-- The expired entries leave the table and are recorded, the others stay one tick shorter (R75, R76). -/
theorem State.settleTick_eq (s : State) : s.settleTick = s.expired.foldl State.expireEntry s.shortened := by
  have hstay : ∀ e : SettleEntry, decide (e.remaining - 1 ≠ 0) = decide (1 < e.remaining) :=
    fun e => decide_eq_decide.2 (by omega)
  have hleave : ∀ e : SettleEntry, decide (e.remaining - 1 = 0) = decide (e.remaining ≤ 1) :=
    fun e => decide_eq_decide.2 (by omega)
  simp only [State.settleTick, State.expired, State.shortened, List.filter_map, Function.comp_def, hstay, hleave,
    List.foldl_map, State.expireEntry_remaining]

/-- A base tick is the counters, the expired entries and the arbiter's decision, in that order (R75, R76, R166; log
entry 6). -/
theorem State.tick_eq (s : State) :
    s.tick = (s.expired.foldl State.expireEntry s.counted.shortened).arbitrate := by
  have hexpired : s.counted.expired = s.expired := by rw [State.expired, State.counted_settle, State.expired]
  rw [State.tick, ← State.counted, State.settleTick_eq, hexpired]

theorem State.tick_time (s : State) : s.tick.time = s.counted.time := by
  simp [State.tick_eq, State.shortened]

theorem State.tick_settle_eq (s : State) : s.tick.settle = s.shortened.settle := by
  simp [State.tick_eq, State.shortened]

/-- The record after a base tick: decayed if the countdown ends, with one change counted for each expired entry. -/
theorem State.tick_region (s : State) (r : Fin 32) :
    s.tick.region r = { s.counted.region r with
      changesRecorded := addCount (s.counted.region r).changesRecorded
        (s.expired.filter fun e => e.region = r).length } := by
  have harbitrate : ∀ u : State, u.arbitrate.region r = u.region r := fun u => by simp
  rw [State.tick_eq, harbitrate, State.expireEntries_region]
  rfl

/-- Outside RUN a base tick records nothing (R82). -/
theorem State.tick_of_not_run {s : State} (h : s.monitor.state ≠ .run) :
    s.tick.queue = s.queue ∧ s.tick.notices = s.notices := by
  have hidle : s.counted.shortened.monitor.state ≠ .run := by simpa [State.shortened] using h
  obtain ⟨hqueue, hnotices⟩ := State.expireEntries_of_not_run s.expired hidle
  constructor
  · simpa [State.tick_eq, State.shortened] using hqueue
  · simpa [State.tick_eq, State.shortened] using hnotices

/-- In RUN a base tick records the expired entries in creation order, with the time stamp it has moved (R76, R166). -/
theorem State.tick_queue_of_run {s : State} (h : s.monitor.state = .run) :
    s.tick.queue =
      (s.expired.foldl (fun (u : State) e => u.createRecord e.report) { s with time := s.tick.time }).queue := by
  have hrun : s.counted.shortened.monitor.state = .run := by simpa [State.shortened] using h
  have hrecorded := State.expireEntries_of_run s.expired (u := { s with time := s.tick.time }) hrun
    (by simp [State.shortened]) (by simp [State.shortened, State.tick_time])
  simpa [State.tick_eq] using hrecorded

/-! ### The row SETTLE_EXPIRY -/

/-- The first entry with no tick left is the one SETTLE_EXPIRY takes. -/
theorem execSettleExpiry_of_first {s : State} {before after : List SettleEntry} {e : SettleEntry}
    (hsettle : s.settle = before ++ e :: after) (hbefore : ∀ e' ∈ before, e'.remaining ≠ 0) (he : e.remaining = 0) :
    execSettleExpiry s = .next ((s.dropEntry e.addr).expireEntry e).arbitrate := by
  have hfind : (s.settle.find? fun e' => e'.remaining = 0) = some e := by
    rw [hsettle, List.find?_append, List.find?_eq_none.2 (by simpa using hbefore),
      List.find?_cons_of_pos (by simpa using he), Option.none_or]
  rw [execSettleExpiry, hfind]

/-! ### The rows of the Timebase -/

/-- Settles O54: a base tick field by field (`State.tick_eq`), and the two rows by the same operations. -/
theorem ticksTimeDecayAndSettling : Obligations.TicksTimeDecayAndSettling := by
  unfold Obligations.TicksTimeDecayAndSettling
  intro decayed settled
  have hdecayed : ∀ (s : State) (x : Region), x.decay s.time.decayStep = decayed s x :=
    fun s x => Region.decay_eq s.time.decayStep x
  refine ⟨fun s => ⟨fun h => if_neg h, fun h => if_pos h⟩, fun s => ?baseTick,
    fun s => ⟨fun hzero => ?decayTick, fun hne => if_neg hne⟩,
    fun s before after e hsettle hbefore he honly => ?settleExpiry⟩
  case baseTick =>
    intro decays expired
    refine ⟨s.tick, rfl, (State.tick_time s).trans (State.counted_time s), State.tick_settle_eq s, fun r => ?_,
      State.tick_of_not_run, State.tick_queue_of_run, ?_⟩
    · have hregion : s.counted.region r = if decays then decayed s (s.region r) else s.region r := by
        rw [State.counted_region, hdecayed]
      exact hregion ▸ State.tick_region s r
    · simp [State.tick]
  case decayTick =>
    refine ⟨_, if_pos hzero, fun r => ?_, State.decayAll_eq _⟩
    rw [State.decayAll_region]
    exact hdecayed s (s.region r)
  case settleExpiry =>
    have harbitrate : ∀ u : State, u.arbitrate.queue = u.queue ∧ ∀ i, u.arbitrate.region i = u.region i :=
      fun u => by simp
    obtain ⟨hqueue, hregions⟩ := harbitrate ((s.dropEntry e.addr).expireEntry e)
    refine ⟨_, execSettleExpiry_of_first hsettle hbefore he, ?_,
      (hregions _).trans ((State.expireEntry_region ..).trans (if_pos rfl)),
      fun i hi => (hregions i).trans ((State.expireEntry_region ..).trans (if_neg (Ne.symm hi))),
      fun hidle => ?_, fun hrun => ?_, by simp⟩
    · rw [← State.dropEntry_settle_of_only hsettle rfl honly]
      simp
    · obtain ⟨hkept, -⟩ := State.expireEntry_of_not_run (s := s.dropEntry e.addr) hidle e
      exact hqueue.trans hkept
    · obtain ⟨hcreated, -⟩ := State.expireEntry_of_run (s := s.dropEntry e.addr) hrun e
      exact hqueue.trans (hcreated.trans
        (State.createRecord_queue_congr (State.dropEntry_queue ..) (State.dropEntry_time ..) _))

end Sys2Proof.Machine
end

section
/-! The Activity Integrators on a write (R90 to R94, R100): the weight is added, then the alert is judged, then the trip,
and what each judgement does to the record, the notices and the queue. -/

namespace Sys2Proof.Machine

/-! ### The weight -/

/-- A weight is added up to 65535 (R91). -/
theorem satAdd_eq (c : Word) (weight : Byte) :
    satAdd c weight = BitVec.ofNat 16 (min 65535 (c.toNat + weight.toNat)) := by
  apply BitVec.eq_of_toNat_eq
  unfold satAdd
  split
  · next hover => rw [Nat.min_eq_left (Nat.le_of_lt hover)]; rfl
  · next hroom =>
    simp only [BitVec.toNat_add, BitVec.toNat_setWidth, BitVec.toNat_ofNat]
    omega

theorem satAdd_toNat (c : Word) (weight : Byte) :
    (satAdd c weight).toNat = min 65535 (c.toNat + weight.toNat) := by
  rw [satAdd_eq, BitVec.toNat_ofNat]
  omega

/-- An accumulator never falls when a weight is added. -/
theorem le_satAdd (c : Word) (weight : Byte) : c.toNat ≤ (satAdd c weight).toNat := by
  have hlt := c.isLt
  rw [satAdd_toNat]
  omega

/-- The write's weight has been added to the accumulator of region `r`, and nothing is judged yet (R91). -/
def State.weighed (s : State) (r : Fin 32) : State :=
  s.modRegion r fun x => { x with accumulator := satAdd x.accumulator x.cfg.weight }

theorem State.integrate_off {s : State} {r : Fin 32} (h : (s.region r).cfg.tripThreshold = 0) (a : Addr) :
    s.integrate r a = s :=
  if_pos h

/-- With a trip threshold a write is weighed, judged for the alert, then for the trip (R91 to R93). -/
theorem State.integrate_on {s : State} {r : Fin 32} (h : (s.region r).cfg.tripThreshold ≠ 0) (a : Addr) :
    s.integrate r a = ((s.weighed r).judgeAlert r a).judgeTrip r (some a) :=
  if_neg h

theorem State.weighed_region (s : State) (r : Fin 32) :
    (s.weighed r).region r =
      { s.region r with accumulator := satAdd (s.region r).accumulator (s.region r).cfg.weight } := by
  rw [State.weighed, State.region_modRegion, if_pos rfl]

theorem State.weighed_region_other (s : State) {r i : Fin 32} (h : i ≠ r) : (s.weighed r).region i = s.region i := by
  rw [State.weighed, State.region_modRegion, if_neg (Ne.symm h)]

/-! ### Judgements -/

/-- A judgement: where `p` holds it changes its record, sets its notice and, in RUN, creates its record (R92, R93). -/
def State.judged (s : State) (p : Prop) [Decidable p] (r : Fin 32) (f : Region → Region) (n : Notice)
    (b : Report) : State :=
  if p then ((s.modRegion r f).setNotice n).produce b else s

section
variable {s : State} {p : Prop} [Decidable p] {r : Fin 32} {f : Region → Region} {n : Notice} {b : Report}

theorem State.judged_of_not (h : ¬p) : s.judged p r f n b = s := if_neg h

theorem State.judged_region : (s.judged p r f n b).region r = if p then f (s.region r) else s.region r := by
  unfold State.judged
  split <;> simp

theorem State.judged_region_other {i : Fin 32} (h : i ≠ r) : (s.judged p r f n b).region i = s.region i := by
  unfold State.judged
  split <;> simp [Ne.symm h]

theorem State.judged_noticeSet (h : p) : (s.judged p r f n b).noticeSet n = true := by
  rw [State.judged, if_pos h]
  exact State.produce_noticeSet (State.setNotice_noticeSet _ n) b

theorem State.judged_keeps_noticeSet {k : Notice} (h : s.noticeSet k = true) :
    (s.judged p r f n b).noticeSet k = true := by
  unfold State.judged
  split
  · exact State.produce_noticeSet (State.noticeSet_setNotice (s := s.modRegion r f) h n) b
  · exact h

/-- Outside RUN a judgement creates no record. -/
theorem State.judged_queue_of_not_run (h : s.monitor.state ≠ .run) : (s.judged p r f n b).queue = s.queue := by
  unfold State.judged
  split
  · rw [State.produce_of_not_run (by exact h)]
    rfl
  · rfl

/-- In RUN a judgement that is met creates its record, on the queue and the time stamp it finds. -/
theorem State.judged_queue_of_run (h : s.monitor.state = .run) {u : State} (hqueue : s.queue = u.queue)
    (htime : s.time = u.time) :
    (s.judged p r f n b).queue = (if p then u.createRecord b else u).queue := by
  unfold State.judged
  split
  · rw [State.produce_queue_of_run (by exact h)]
    exact State.createRecord_queue_congr (s := (s.modRegion r f).setNotice n) hqueue htime b
  · exact hqueue

end

/-- The alert judgement of a region whose record is `x` (R92). -/
theorem State.judgeAlert_eq {s : State} {r : Fin 32} {x : Region} (h : s.region r = x) (a : Addr) :
    s.judgeAlert r a = s.judged (x.cfg.alertThreshold ≠ 0 ∧ x.cfg.alertThreshold.toNat ≤ x.accumulator.toNat ∧
        x.alertFlag = false) r (fun y => { y with alertFlag := true }) .alert
      { kind := .alert, region := some r, addr := some a, valueA := x.accumulator
        valueB := x.cfg.alertThreshold } := by
  subst h
  rfl

/-- The trip judgement of a region whose record is `x` (R93, R100). -/
theorem State.judgeTrip_eq {s : State} {r : Fin 32} {x : Region} (h : s.region r = x) (a : Option Addr) :
    s.judgeTrip r a = s.judged (x.cfg.tripThreshold.toNat ≤ x.accumulator.toNat ∧ x.tripLatch = false) r
        (fun y => { y with tripLatch := true }) .trip
      { kind := .trip, region := some r, addr := a, valueA := x.accumulator, valueB := x.cfg.tripThreshold } := by
  subst h
  rfl

/-- The alert judgement raises the flag of its region where a nonzero alert threshold is at or below the accumulator,
and leaves the rest of the record. -/
theorem State.judgeAlert_region (s : State) (r : Fin 32) (a : Addr) :
    let x := s.region r
    (s.judgeAlert r a).region r = { x with
      alertFlag := x.alertFlag || decide (x.cfg.alertThreshold ≠ 0 ∧
        x.cfg.alertThreshold.toNat ≤ x.accumulator.toNat ∧ x.alertFlag = false) } := by
  dsimp only
  rw [State.judgeAlert_eq rfl, State.judged_region]
  split
  · next hreached => rw [decide_eq_true hreached, Bool.or_true]
  · next hreached => rw [decide_eq_false hreached, Bool.or_false]

theorem State.judgeAlert_region_other (s : State) {r i : Fin 32} (h : i ≠ r) (a : Addr) :
    (s.judgeAlert r a).region i = s.region i := by
  rw [State.judgeAlert_eq rfl, State.judged_region_other h]

/-! ### What a write makes of its region's record -/

/-- A latch or flag set where it is clear is the latch or flag set. -/
theorem or_decide_and_clear (flag : Bool) (p : Prop) [Decidable p] :
    (flag || decide (p ∧ flag = false)) = (flag || decide p) := by
  cases flag <;> simp

/-- The record after a write: the sum, the alert flag raised at or above a nonzero alert threshold, the trip latched at
or above the trip threshold. -/
theorem State.integrate_region {s : State} {r : Fin 32} (h : (s.region r).cfg.tripThreshold ≠ 0) (a : Addr) :
    let x := s.region r
    let sum := satAdd x.accumulator x.cfg.weight
    (s.integrate r a).region r = { x with
      accumulator := sum
      alertFlag := x.alertFlag || decide (x.cfg.alertThreshold ≠ 0 ∧
        x.cfg.alertThreshold.toNat ≤ sum.toNat ∧ x.alertFlag = false)
      tripLatch := x.tripLatch || decide (x.cfg.tripThreshold.toNat ≤ sum.toNat ∧ x.tripLatch = false) } := by
  dsimp only
  rw [or_decide_and_clear (s.region r).tripLatch, State.integrate_on h, State.judgeTrip_region,
    State.judgeAlert_region, State.weighed_region]

theorem State.integrate_region_other (s : State) {r i : Fin 32} (h : i ≠ r) (a : Addr) :
    (s.integrate r a).region i = s.region i := by
  by_cases hoff : (s.region r).cfg.tripThreshold = 0
  · rw [State.integrate_off hoff]
  · rw [State.integrate_on hoff, State.judgeTrip_region_other _ h, State.judgeAlert_region_other _ h,
      State.weighed_region_other _ h]

/-- A write touches the regions, the queue and the notices alone. -/
theorem State.integrate_eq (s : State) (r : Fin 32) (a : Addr) :
    let t := s.integrate r a
    t = { s with regions := t.regions, queue := t.queue, notices := t.notices } := by
  obtain ⟨hpath, harb, hstaging, hshadow, halloc, hpointer, hprime, hsettle, hdrain, hmonitor, htime, hport, hpending⟩ :=
    s.integrate_frame r a
  dsimp only
  rw [← hpath, ← harb, ← hstaging, ← hshadow, ← halloc, ← hpointer, ← hprime, ← hsettle, ← hdrain, ← hmonitor, ← htime,
    ← hport, ← hpending]

/-- Settles O47: a write with a trip threshold is weighed, then judged for the alert and for the trip (`State.judged`),
each on the sum of the statement. -/
theorem integratorAlertsAndTrips : Obligations.IntegratorAlertsAndTrips := by
  intro s r a x t sum alerts trips alerted tripped
  refine ⟨fun hoff => State.integrate_off hoff a, fun hon => ?_⟩
  have hsum : (satAdd (s.region r).accumulator (s.region r).cfg.weight).toNat = sum := satAdd_toNat ..
  have hword : satAdd (s.region r).accumulator (s.region r).cfg.weight = BitVec.ofNat 16 sum := satAdd_eq ..
  have halert := State.judgeAlert_eq (s.weighed_region r) a
  have htrip := State.judgeTrip_eq (State.judgeAlert_region (s.weighed r) r a) (some a)
  have ht : t = ((s.weighed r).judgeAlert r a).judgeTrip r (some a) := State.integrate_on hon a
  simp only [State.weighed_region] at halert htrip
  rw [hsum, hword] at halert htrip
  refine ⟨State.integrate_eq s r a, ?region, fun i hi => State.integrate_region_other s hi a, fun hmet => ?alert,
    fun hmet => ?trip, fun hidle => ?idle, fun hrun => ?run, fun hcalm hclosed => ?calm⟩
  case region =>
    have hrecord := State.integrate_region hon a
    dsimp only at hrecord
    rw [hsum, hword] at hrecord
    exact hrecord
  case alert =>
    rw [ht, htrip]
    refine State.judged_keeps_noticeSet ?_
    rw [halert]
    exact State.judged_noticeSet hmet
  case trip =>
    rw [ht, htrip]
    exact State.judged_noticeSet hmet
  case idle =>
    have hidle' : ((s.weighed r).judgeAlert r a).monitor.state ≠ .run := by simpa [State.weighed] using hidle
    rw [ht, htrip, State.judged_queue_of_not_run hidle', halert, State.judged_queue_of_not_run (by exact hidle)]
    rfl
  case run =>
    have halerted : ((s.weighed r).judgeAlert r a).queue = alerted.queue := by
      rw [halert]
      exact State.judged_queue_of_run (s := s.weighed r) (u := s) hrun rfl rfl
    have htime : ((s.weighed r).judgeAlert r a).time = alerted.time := by
      dsimp only [alerted]
      split <;> simp [State.weighed]
    rw [ht, htrip]
    exact State.judged_queue_of_run (by simpa [State.weighed] using hrun) halerted htime
  case calm =>
    rw [ht, htrip, State.judged_of_not hclosed, halert, State.judged_of_not hcalm]
    rfl

end Sys2Proof.Machine
end

section
/-! The integrators over every step (R90, R97, R100, R101): what a sound record is, and which operations keep every record
sound. -/

namespace Sys2Proof.Machine

/-! ### A sound record -/

/-- The facts of `State.integratorsSound` about one record. -/
def Region.integratorSound (x : Region) : Prop :=
  (¬(x.acting ∧ x.cfg.tripThreshold ≠ 0) → x.accumulator = 0 ∧ x.alertFlag = false ∧ x.tripLatch = false) ∧
  (x.alertFlag = true → x.cfg.alertThreshold ≠ 0 ∧ x.cfg.alertThreshold.toNat ≤ x.accumulator.toNat)

theorem State.integratorsSound_iff (s : State) : s.integratorsSound ↔ ∀ r, (s.region r).integratorSound := Iff.rfl

/-- A cleared integrator is sound in every state of its region (R101). -/
theorem Region.integratorSound.of_clear {x : Region} (hacc : x.accumulator = 0) (halert : x.alertFlag = false)
    (htrip : x.tripLatch = false) : x.integratorSound :=
  ⟨fun _ => ⟨hacc, halert, htrip⟩, fun hset => nomatch hset.symm.trans halert⟩

theorem Region.fresh_integratorSound (st : RegionState) (c : RegionConfig) :
    (Region.fresh st c).integratorSound :=
  .of_clear rfl rfl rfl

/-- A region that does not stop acting keeps its integrator sound. -/
theorem Region.integratorSound.setState {x : Region} (h : x.integratorSound) {st : RegionState}
    (hact : x.acting = true → Region.acting { x with state := st } = true) :
    Region.integratorSound { x with state := st } := by
  obtain ⟨hzero, halert⟩ := h
  exact ⟨fun hoff => hzero fun hon => hoff ⟨hact hon.1, hon.2⟩, halert⟩

theorem Region.activate_integratorSound {x : Region} (h : x.integratorSound) : x.activate.integratorSound := by
  unfold Region.activate
  split
  · exact h.setState (st := .priming) fun _ => rfl
  · exact h.setState (st := .live) fun _ => rfl

theorem Region.armed_integratorSound {x : Region} (h : x.integratorSound) : x.armed.integratorSound := by
  unfold Region.armed
  split
  · exact Region.activate_integratorSound h
  · exact h

theorem Region.disarm_integratorSound {x : Region} (h : x.integratorSound) : x.disarm.integratorSound := by
  unfold Region.disarm
  split
  · exact .of_clear rfl rfl rfl
  · exact h

theorem Region.partialReset_integratorSound (x : Region) : x.partialReset.integratorSound :=
  .of_clear rfl rfl rfl

/-- A decay tick leaves an accumulator at zero there, and a flag only at or above its threshold (R96, R97). -/
theorem Region.decay_integratorSound {x : Region} (h : x.integratorSound) (step : Byte) :
    (x.decay step).integratorSound := by
  obtain ⟨hzero, halert⟩ := h
  refine ⟨fun hoff => ?_, fun hset => ?_⟩
  · obtain ⟨hacc, hflag, hlatch⟩ := hzero hoff
    refine ⟨?_, by rw [Region.decay, hflag, Bool.false_and], hlatch⟩
    rw [Region.decay_eq, hacc]
    simp
  · obtain ⟨hflag, hreached⟩ := Bool.and_eq_true_iff.1 hset
    exact ⟨(halert hflag).1, of_decide_eq_true hreached⟩

/-! ### Keeping every record sound -/

/-- From `s` to `t` every sound record stays sound. -/
def State.IntegratorsKept (s t : State) : Prop :=
  ∀ r : Fin 32, (s.region r).integratorSound → (t.region r).integratorSound

theorem State.IntegratorsKept.refl (s : State) : s.IntegratorsKept s := fun _ h => h

theorem State.IntegratorsKept.trans {s t u : State} (h : s.IntegratorsKept t) (h' : t.IntegratorsKept u) :
    s.IntegratorsKept u :=
  fun r hr => h' r (h r hr)

theorem State.IntegratorsKept.of_regions {s t : State} (h : t.regions = s.regions) : s.IntegratorsKept t := by
  intro r hr
  rwa [State.region, h]

/-- What follows leaves the regions alone. -/
theorem State.IntegratorsKept.leaving {s t u : State} (h : s.IntegratorsKept t) (h' : u.regions = t.regions) :
    s.IntegratorsKept u :=
  h.trans (.of_regions h')

theorem State.IntegratorsKept.of_sound {s t : State} (h : ∀ r, (t.region r).integratorSound) : s.IntegratorsKept t :=
  fun r _ => h r

theorem State.setRegion_integratorsKept {s : State} {r : Fin 32} {x : Region}
    (hx : (s.region r).integratorSound → x.integratorSound) : s.IntegratorsKept (s.setRegion r x) := by
  intro q hq
  rw [State.region_setRegion]
  split
  · next hrq => exact hx (hrq ▸ hq)
  · exact hq

theorem State.modRegion_integratorsKept {s : State} {r : Fin 32} {f : Region → Region}
    (hf : (s.region r).integratorSound → (f (s.region r)).integratorSound) : s.IntegratorsKept (s.modRegion r f) :=
  State.setRegion_integratorsKept hf

theorem State.IntegratorsKept.modRegion {s t : State} {r : Fin 32} {f : Region → Region} (h : s.IntegratorsKept t)
    (hf : (t.region r).integratorSound → (f (t.region r)).integratorSound) : s.IntegratorsKept (t.modRegion r f) :=
  h.trans (State.modRegion_integratorsKept hf)

theorem State.IntegratorsKept.produce {s t : State} (h : s.IntegratorsKept t) (b : Report) :
    s.IntegratorsKept (t.produce b) :=
  h.leaving (by simp)

theorem State.IntegratorsKept.arbitrate {s t : State} (h : s.IntegratorsKept t) : s.IntegratorsKept t.arbitrate :=
  h.leaving (by simp)

theorem State.IntegratorsKept.releasePort {s t : State} (h : s.IntegratorsKept t) : s.IntegratorsKept t.releasePort :=
  h.leaving (by simp)

theorem State.IntegratorsKept.cancelRead {s t : State} (h : s.IntegratorsKept t) (leaving : Fin 32 → Bool) :
    s.IntegratorsKept (t.cancelRead leaving) :=
  h.leaving rfl

/-! ### Traffic -/

theorem State.countRefusal_integratorsKept (s : State) (r : Fin 32) (reason : Word) (c : MasterCycle) :
    s.IntegratorsKept (s.countRefusal r reason c) := by
  have hcounted : s.IntegratorsKept (s.modRegion r fun x => { x with refusals := satInc x.refusals }) :=
    State.modRegion_integratorsKept id
  unfold State.countRefusal
  dsimp only
  split
  · exact (hcounted.modRegion (r := r) (f := fun x => { x with refusalReported := true }) id).leaving (by simp)
  · exact hcounted

theorem State.recordChange_integratorsKept (s : State) (r : Fin 32) (a : Addr) (old new : Word)
    (settled unsettled : Bool) : s.IntegratorsKept (s.recordChange r a old new settled unsettled) :=
  (State.modRegion_integratorsKept (s := s) (r := r)
    (f := fun x => { x with changesRecorded := satInc x.changesRecorded }) id).produce _

theorem State.detect_integratorsKept (s : State) (r : Fin 32) (a : Addr) (old new : Word) :
    s.IntegratorsKept (s.detect r a old new) := by
  unfold State.detect
  dsimp only
  split
  · split
    · exact s.recordChange_integratorsKept r a old new _ _
    · exact .refl s
  · split
    · split
      · split
        · exact .of_regions rfl
        · exact s.recordChange_integratorsKept r a old new _ _
      · exact .refl s
    · split
      · exact .refl s
      · split
        · exact .of_regions rfl
        · exact State.IntegratorsKept.modRegion (t := s.dropEntry a) (.of_regions rfl) (by exact id)

theorem State.verifyRead_integratorsKept (s : State) (r : Fin 32) (a : Addr) (k : Nat) (held data : Word) :
    s.IntegratorsKept (s.verifyRead r a k held data) := by
  have hsynced : s.IntegratorsKept
      ((s.writeShadow k data).modRegion r fun x => { x with divergences := satInc x.divergences }) :=
    State.IntegratorsKept.modRegion (t := s.writeShadow k data) (.of_regions rfl) id
  unfold State.verifyRead
  split
  · exact .refl s
  · refine State.IntegratorsKept.produce ?_ _
    split
    · exact hsynced.leaving rfl
    · exact hsynced

theorem State.shadowWrite_integratorsKept (s : State) (r : Fin 32) (a : Addr) (enables : BitVec 2) (d : Word) :
    s.IntegratorsKept (s.shadowWrite r a enables d) := by
  unfold State.shadowWrite
  split
  · exact .refl s
  · next k _ =>
    have hwritten : ∀ w, s.IntegratorsKept (s.writeShadow k w) := fun _ => .of_regions rfl
    split
    · dsimp only
      split
      · exact (hwritten _).trans (State.detect_integratorsKept _ r a _ _)
      · exact hwritten _
    · split
      · exact (hwritten _).modRegion (by exact id)
      · exact .refl s

theorem State.shadowRead_integratorsKept (s : State) (r : Fin 32) (a : Addr) (d : Word) :
    s.IntegratorsKept (s.shadowRead r a d) := by
  unfold State.shadowRead
  split
  · exact .refl s
  · next k _ =>
    split
    · exact State.IntegratorsKept.modRegion (t := s.writeShadow k d) (.of_regions rfl) (by exact id)
    · split
      · exact s.verifyRead_integratorsKept r a _ _ d
      · exact .refl s

/-- A write reaches an acting region: its alert flag is raised only at or above a nonzero alert threshold, and stays
there as the accumulator never falls (R91, R92). -/
theorem State.integrate_integratorsKept {s : State} {r : Fin 32} (hact : (s.region r).acting = true) (a : Addr) :
    s.IntegratorsKept (s.integrate r a) := by
  by_cases hoff : (s.region r).cfg.tripThreshold = 0
  · rw [State.integrate_off hoff]
    exact .refl s
  · intro q hq
    by_cases hqr : q = r
    · subst hqr
      obtain ⟨_, halert⟩ := hq
      rw [State.integrate_region hoff a]
      refine ⟨fun hidle => absurd ⟨hact, hoff⟩ hidle, fun hset => ?_⟩
      rcases Bool.or_eq_true_iff.1 hset with hflag | hraised
      · obtain ⟨hne, hreached⟩ := halert hflag
        exact ⟨hne, hreached.trans (le_satAdd _ _)⟩
      · obtain ⟨hne, hreached, _⟩ := of_decide_eq_true hraised
        exact ⟨hne, hreached⟩
    · rwa [State.integrate_region_other s hqr a]

/-- The Shadow Store and the Change Detector leave the region acting, so the integrator finds it so (R37). -/
theorem State.consumeWrite_integratorsKept (s : State) (a : Addr) (enables : BitVec 2) (d : Word) :
    s.IntegratorsKept (s.consumeWrite a enables d) := by
  unfold State.consumeWrite
  split
  · exact .refl s
  · next r hr =>
    obtain ⟨hact, _⟩ := State.actingRegion_spec hr
    split
    · have hstill : ((s.shadowWrite r a enables d).region r).acting = true := by
        rw [← hact]
        simp [Region.acting]
      exact (s.shadowWrite_integratorsKept r a enables d).trans (State.integrate_integratorsKept hstill a)
    · exact State.integrate_integratorsKept hact a

theorem State.consumeRead_integratorsKept (s : State) (a : Addr) (enables : BitVec 2) (d : Word) (lines : BitVec 2) :
    s.IntegratorsKept (s.consumeRead a enables d lines) := by
  unfold State.consumeRead
  split
  · exact .refl s
  · split
    · exact s.shadowRead_integratorsKept _ a d
    · exact .refl s

/-! ### The Prime Engine -/

theorem State.takePrime_integratorsKept (s : State) (p : PrimeRead) (d : Word) :
    s.IntegratorsKept (s.takePrime p d) := by
  unfold State.takePrime
  split
  · split
    · exact .refl s
    · next k _ =>
      split
      · exact .refl s
      · exact State.IntegratorsKept.modRegion (t := s.writeShadow k d) (.of_regions rfl) (by exact id)
  · exact .refl s

theorem State.completePriming_integratorsKept (s : State) (r : Fin 32) :
    s.IntegratorsKept (s.completePriming r) :=
  (State.modRegion_integratorsKept (s := s) (r := r) (f := fun x => { x with state := .live, primeCursor := x.cfg.size })
    fun h => h.setState (st := .live) fun _ => rfl).leaving (by simp [State.completePriming])

theorem primeSteps_integratorsKept (n : Nat) (s : State) : s.IntegratorsKept (primeSteps n s) := by
  induction n generalizing s with
  | zero => exact .of_regions rfl
  | succ n ih =>
    unfold primeSteps
    split
    · exact .of_regions rfl
    · next r _ =>
      have hserving : s.IntegratorsKept { s with prime := { s.prime with served := some r } } := .of_regions rfl
      have hrescanned := hserving.modRegion (r := r) (f := fun x => { x with primeCursor := x.cfg.size }) id
      dsimp only
      split
      · exact .of_regions rfl
      · split
        · exact hrescanned.leaving rfl
        · exact hrescanned.trans ((State.completePriming_integratorsKept _ r).trans (ih _))

theorem State.primeStep_integratorsKept (s : State) : s.IntegratorsKept s.primeStep := by
  unfold State.primeStep
  split
  · exact .refl s
  · exact primeSteps_integratorsKept 33 s

theorem State.primeLeft_integratorsKept (s : State) : s.IntegratorsKept s.primeLeft := by
  unfold State.primeLeft
  split
  · exact s.primeStep_integratorsKept
  · exact .refl s

/-! ### The region commands -/

theorem commitRegionEffect_integratorsKept (ops : List Byte) (s : State) :
    s.IntegratorsKept (commitRegionEffect ops s).1 := by
  have hcommitted : ∀ r alloc, s.IntegratorsKept { s.setRegion r (Region.fresh .idle s.staging) with alloc := alloc } :=
    fun r _ => (State.setRegion_integratorsKept fun _ => Region.fresh_integratorSound _ _).leaving rfl
  unfold commitRegionEffect
  split
  · exact .refl s
  · split
    · exact .refl s
    · split
      · exact .refl s
      · split
        · exact .refl s
        · split
          · exact .refl s
          · split
            · exact .refl s
            · exact hcommitted _ _

theorem State.regionCommand_integratorsKept {s : State} (index : Byte) {allowed : Region → Bool}
    {effect : Fin 32 → State} (h : ∀ r, allowed (s.region r) = true → s.IntegratorsKept (effect r)) :
    s.IntegratorsKept (s.regionCommand index allowed effect).1 := by
  unfold State.regionCommand
  split
  · exact .refl s
  · next r _ =>
    split
    · next hallowed => exact h r hallowed
    · exact .refl s

/-- An IDLE region does not act, so it may become HELD (R10). -/
theorem State.enableRegion_integratorsKept {s : State} {r : Fin 32} (h : (s.region r).state = .idle) :
    s.IntegratorsKept (s.enableRegion r) := by
  unfold State.enableRegion
  split
  · refine State.modRegion_integratorsKept fun hr => hr.setState fun hact => ?_
    rw [Region.acting_of_state (.inl h)] at hact
    cases hact
  · have hactive : s.IntegratorsKept (s.modRegion r Region.activate) :=
      State.modRegion_integratorsKept Region.activate_integratorSound
    refine State.IntegratorsKept.arbitrate ?_
    split
    · exact hactive.trans (State.primeStep_integratorsKept _)
    · exact hactive

theorem State.disableRegion_integratorsKept (s : State) (r : Fin 32) : s.IntegratorsKept (s.disableRegion r) := by
  have hleft : s.IntegratorsKept
      (((s.invalidate r).dropEntries r).modRegion r fun x => { x.clearIntegrator with state := .idle }) :=
    State.IntegratorsKept.modRegion (t := (s.invalidate r).dropEntries r) (.of_regions (by simp))
      fun _ => .of_clear rfl rfl rfl
  unfold State.disableRegion
  dsimp only
  split
  · exact ((hleft.cancelRead fun q => q == r).trans (State.primeLeft_integratorsKept _)).arbitrate
  · exact hleft

/-- The masks play no part in an integrator. -/
theorem State.setSense_integratorsKept (s : State) (rise fall : Word) (r : Fin 32) :
    s.IntegratorsKept (s.setSense rise fall r) :=
  (State.modRegion_integratorsKept (s := s) (r := r)
    (f := fun x => { x with cfg := { x.cfg with riseMask := rise, fallMask := fall } }) id).leaving rfl

/-- New thresholds clear the integrator, or judge it against themselves (R20, R100). -/
theorem State.setThresholds_integratorsKept (s : State) (alert trip : Word) (r : Fin 32) :
    s.IntegratorsKept (s.setThresholds alert trip r) := by
  by_cases htrip : trip = 0
  · subst htrip
    rw [State.setThresholds_zero]
    exact (State.setRegion_integratorsKept (s := s) fun _ => Region.integratorSound.of_clear rfl rfl rfl).leaving rfl
  · intro q hq
    by_cases hqr : q = r
    · subst hqr
      obtain ⟨hzero, _⟩ := hq
      rw [State.setThresholds_region htrip]
      refine ⟨fun hoff => ?_, fun hset => ?_⟩
      · obtain ⟨hacc, hflag, hlatch⟩ := hzero fun hon => hoff ⟨hon.1, htrip⟩
        have hbelow : ¬trip.toNat ≤ (s.region q).accumulator.toNat := by
          rw [hacc]
          exact fun hle => htrip (BitVec.eq_of_toNat_eq (Nat.le_zero.1 hle))
        refine ⟨hacc, ?_, ?_⟩
        · rw [hflag, Bool.false_and, Bool.false_and]
        · rw [hlatch, decide_eq_false hbelow, Bool.or_false]
      · obtain ⟨hkept, hreached⟩ := Bool.and_eq_true_iff.1 hset
        exact ⟨of_decide_eq_true (Bool.and_eq_true_iff.1 hkept).2, of_decide_eq_true hreached⟩
    · rwa [State.setThresholds_region_other htrip hqr]

theorem enableRegionEffect_integratorsKept (ops : List Byte) (s : State) :
    s.IntegratorsKept (enableRegionEffect ops s).1 := by
  unfold enableRegionEffect
  split
  · exact .refl s
  · exact State.regionCommand_integratorsKept _ fun r hr => State.enableRegion_integratorsKept (by simpa using hr)

theorem disableRegionEffect_integratorsKept (ops : List Byte) (s : State) :
    s.IntegratorsKept (disableRegionEffect ops s).1 := by
  unfold disableRegionEffect
  split
  · exact .refl s
  · exact State.regionCommand_integratorsKept _ fun r _ => s.disableRegion_integratorsKept r

theorem releaseRegionEffect_integratorsKept (ops : List Byte) (s : State) :
    s.IntegratorsKept (releaseRegionEffect ops s).1 := by
  unfold releaseRegionEffect
  split
  · exact .refl s
  · exact State.regionCommand_integratorsKept _ fun r _ =>
      (State.setRegion_integratorsKept fun _ => Region.fresh_integratorSound _ _).leaving rfl

theorem setSenseEffect_integratorsKept (ops : List Byte) (s : State) :
    s.IntegratorsKept (setSenseEffect ops s).1 := by
  unfold setSenseEffect
  split
  · exact State.regionCommand_integratorsKept _ fun r _ => s.setSense_integratorsKept _ _ r
  · exact .refl s

theorem clearTripEffect_integratorsKept (ops : List Byte) (s : State) :
    s.IntegratorsKept (clearTripEffect ops s).1 := by
  unfold clearTripEffect
  split
  · exact .refl s
  · exact State.regionCommand_integratorsKept _ fun r _ =>
      State.modRegion_integratorsKept fun _ => .of_clear rfl rfl rfl

theorem clearCountsEffect_integratorsKept (ops : List Byte) (s : State) :
    s.IntegratorsKept (clearCountsEffect ops s).1 := by
  unfold clearCountsEffect
  split
  · exact .refl s
  · exact State.regionCommand_integratorsKept _ fun r _ => State.modRegion_integratorsKept (by exact id)

theorem setThresholdsEffect_integratorsKept (ops : List Byte) (s : State) :
    s.IntegratorsKept (setThresholdsEffect ops s).1 := by
  unfold setThresholdsEffect
  split
  · split
    · exact .refl s
    · split
      · exact .refl s
      · split
        · exact s.setThresholds_integratorsKept _ _ _
        · exact .refl s
  · exact .refl s

/-! ### The monitor commands, the resets and time -/

theorem armEffect_integratorsKept (ops : List Byte) (s : State) : s.IntegratorsKept (armEffect ops s).1 := by
  unfold armEffect
  split
  · exact .refl s
  · split
    · exact .refl s
    · have harmed : s.IntegratorsKept s.armed := fun r hr => by
        rw [State.armed_region]
        exact Region.armed_integratorSound hr
      exact (harmed.trans (State.primeStep_integratorsKept _)).arbitrate

theorem disarmEffect_integratorsKept (ops : List Byte) (s : State) : s.IntegratorsKept (disarmEffect ops s).1 := by
  unfold disarmEffect
  split
  · exact .refl s
  · have hstood : s.IntegratorsKept s.stoodBy := fun r hr => by
      rw [State.stoodBy_region]
      exact Region.disarm_integratorSound hr
    rw [State.disarmMonitor_eq]
    exact (hstood.trans (State.primeLeft_integratorsKept _)).arbitrate

theorem State.fullReset_integratorsKept (s : State) (cause : ResetCause) : s.IntegratorsKept (s.fullReset cause) :=
  .of_sound fun r => by
    obtain ⟨hfreed, _⟩ := s.fullReset_fullyReset cause
    rw [hfreed]
    exact Region.fresh_integratorSound _ _

theorem State.partialReset_integratorsKept (s : State) : s.IntegratorsKept s.partialReset :=
  .of_sound fun r => by
    rw [State.partialReset_region]
    exact Region.partialReset_integratorSound _

theorem State.decayAll_integratorsKept (s : State) : s.IntegratorsKept s.decayAll := fun r hr => by
  rw [State.decayAll_region]
  exact Region.decay_integratorSound hr _

/-- A base tick decays the accumulators when the countdown ends, and counts changes (R75, R97). -/
theorem State.tick_integratorsKept (s : State) : s.IntegratorsKept s.tick := by
  intro r hr
  have hcounted : (s.counted.region r).integratorSound := by
    rw [State.counted_region]
    split
    · exact Region.decay_integratorSound hr _
    · exact hr
  rw [State.tick_region]
  exact hcounted

end Sys2Proof.Machine
end

section
/-! The commands that leave the regions alone: the effect of a frame, or the event, with the same Region Table after it. -/

namespace Sys2Proof.Machine

/-- The two states have the same Region Table. -/
def State.SameRegions (s t : State) : Prop := t.regions = s.regions

theorem State.SameRegions.refl (s : State) : s.SameRegions s := rfl

/-! ### The effects of the frames -/

theorem readNoticeFrame_sameRegions (f : Frame) (s : State) : s.SameRegions (readNoticeFrame.effect f s).1 := by
  simp only [readNoticeFrame]
  (repeat' split) <;> simp [State.SameRegions]

theorem clearNoticeEffect_sameRegions (ops : List Byte) (s : State) : s.SameRegions (clearNoticeEffect ops s).1 := by
  unfold clearNoticeEffect
  split <;> simp [State.SameRegions]

theorem setNoticeMaskEffect_sameRegions (ops : List Byte) (s : State) :
    s.SameRegions (setNoticeMaskEffect ops s).1 := by
  unfold setNoticeMaskEffect
  split <;> exact .refl s

theorem stageRegionEffect_sameRegions (ops : List Byte) (s : State) : s.SameRegions (stageRegionEffect ops s).1 := by
  unfold stageRegionEffect
  split <;> exact .refl s

theorem readRegionFrame_sameRegions (f : Frame) (s : State) : s.SameRegions (readRegionFrame.effect f s).1 := by
  simp only [readRegionFrame]
  (repeat' split) <;> exact .refl s

theorem loadLinkEffect_sameRegions (ops : List Byte) (s : State) : s.SameRegions (loadLinkEffect ops s).1 := by
  unfold loadLinkEffect
  dsimp only
  (repeat' split) <;> simp [State.SameRegions]

theorem readLinkFrame_sameRegions (f : Frame) (s : State) : s.SameRegions (readLinkFrame.effect f s).1 := by
  simp only [readLinkFrame]
  (repeat' split) <;> exact .refl s

theorem startDrainEffect_sameRegions (ops : List Byte) (s : State) : s.SameRegions (startDrainEffect ops s).1 := by
  unfold startDrainEffect State.continueDrain State.startDrainAt
  dsimp only
  (repeat' split) <;> simp [State.SameRegions]

theorem stopDrainEffect_sameRegions (ops : List Byte) (s : State) : s.SameRegions (stopDrainEffect ops s).1 := by
  unfold stopDrainEffect
  split <;> simp [State.SameRegions]

theorem flushEffect_sameRegions (ops : List Byte) (s : State) : s.SameRegions (flushEffect ops s).1 := by
  unfold flushEffect
  dsimp only
  (repeat' split) <;> simp [State.SameRegions]

theorem abortDrainEffect_sameRegions (ops : List Byte) (s : State) : s.SameRegions (abortDrainEffect ops s).1 := by
  unfold abortDrainEffect
  dsimp only
  (repeat' split) <;> simp [State.SameRegions]

theorem popEventFrame_sameRegions (f : Frame) (s : State) : s.SameRegions (popEventFrame.effect f s).1 := by
  simp only [popEventFrame]
  (repeat' split) <;> simp [State.SameRegions]

theorem discardQueueEffect_sameRegions (ops : List Byte) (s : State) :
    s.SameRegions (discardQueueEffect ops s).1 := by
  unfold discardQueueEffect
  split <;> simp [State.SameRegions]

theorem unloadLinkEffect_sameRegions (ops : List Byte) (s : State) : s.SameRegions (unloadLinkEffect ops s).1 := by
  unfold unloadLinkEffect
  (repeat' split) <;> exact .refl s

theorem resumeEffect_sameRegions (ops : List Byte) (s : State) : s.SameRegions (resumeEffect ops s).1 := by
  unfold resumeEffect
  (repeat' split) <;> exact .refl s

theorem setTimebaseEffect_sameRegions (ops : List Byte) (s : State) : s.SameRegions (setTimebaseEffect ops s).1 := by
  unfold setTimebaseEffect
  (repeat' split) <;> exact .refl s

theorem setOptionsEffect_sameRegions (ops : List Byte) (s : State) : s.SameRegions (setOptionsEffect ops s).1 := by
  unfold setOptionsEffect
  (repeat' split) <;> exact .refl s

theorem setShadowPointerEffect_sameRegions (ops : List Byte) (s : State) :
    s.SameRegions (setShadowPointerEffect ops s).1 := by
  unfold setShadowPointerEffect
  (repeat' split) <;> exact .refl s

theorem readShadowFrame_sameRegions (f : Frame) (s : State) : s.SameRegions (readShadowFrame.effect f s).1 := by
  simp only [readShadowFrame]
  (repeat' split) <;> exact .refl s

/-! ### The events -/

theorem execMasterCycleArrives_sameRegions (moe mwe : Bool) (addr : Addr) (enables : BitVec 2) (data : Word)
    (parity : BitVec 2) (s : State) :
    Answers (execMasterCycleArrives moe mwe addr enables data parity s) s.SameRegions := by
  unfold execMasterCycleArrives
  split <;> exact .next (by simp [State.SameRegions])

theorem State.endMasterCycle_sameRegions (s : State) : s.SameRegions s.endMasterCycle := by
  simp [State.SameRegions]

theorem execReadGrant_sameRegions (s : State) : Answers (execReadGrant s) s.SameRegions := by
  unfold execReadGrant
  (repeat' split) <;> exact .next (.refl s)

theorem execDrainGrant_sameRegions (s : State) : Answers (execDrainGrant s) s.SameRegions := by
  unfold execDrainGrant
  split <;> exact .next (by simp [State.SameRegions])

theorem execDrainWriteCompletion_sameRegions (s : State) : Answers (execDrainWriteCompletion s) s.SameRegions := by
  unfold execDrainWriteCompletion
  (repeat' split) <;> exact .next (by simp [State.SameRegions])

theorem execRecordWriteCompletion_sameRegions (s : State) : Answers (execRecordWriteCompletion s) s.SameRegions := by
  unfold execRecordWriteCompletion
  (repeat' split) <;> exact .next (by simp [State.SameRegions])

theorem execPadWriteCompletion_sameRegions (s : State) : Answers (execPadWriteCompletion s) s.SameRegions := by
  unfold execPadWriteCompletion
  (repeat' split) <;> exact .next (by simp [State.SameRegions])

theorem execBurstEnd_sameRegions (s : State) : Answers (execBurstEnd s) s.SameRegions := by
  unfold execBurstEnd
  split <;> exact .next (by simp [State.SameRegions])

theorem execSnapEdge_sameRegions (s : State) : Answers (execSnapEdge s) s.SameRegions := by
  unfold execSnapEdge State.startFreeze
  dsimp only
  (repeat' split) <;> exact .next (by simp [State.SameRegions])

theorem execFlushComplete_sameRegions (s : State) : Answers (execFlushComplete s) s.SameRegions := by
  unfold execFlushComplete
  split <;> exact .next (by simp [State.SameRegions])

theorem execAbortCarriedOut_sameRegions (s : State) : Answers (execAbortCarriedOut s) s.SameRegions := by
  unfold execAbortCarriedOut
  split <;> exact .next (by simp [State.SameRegions])

theorem execLossPlacement_sameRegions (s : State) : Answers (execLossPlacement s) s.SameRegions :=
  .next (by simp [State.SameRegions])

end Sys2Proof.Machine
end

section
/-! The integrators over every command (R90, R97, R100, R101), and the proof of O57. -/

namespace Sys2Proof.Machine

theorem State.SameRegions.integratorsKept {s t : State} (h : s.SameRegions t) : s.IntegratorsKept t := .of_regions h

theorem Answers.integratorsKept {o : Host.Outcome State Fault Refusal} {s : State} (h : Answers o s.SameRegions) :
    Answers o s.IntegratorsKept := by
  obtain ⟨t, ht, hsame⟩ := h
  exact ⟨t, ht, hsame.integratorsKept⟩

/-! ### Grants and completions -/

theorem execWriteGrant_integratorsKept (s : State) : Answers (execWriteGrant s) s.IntegratorsKept := by
  unfold execWriteGrant
  split
  · exact .next (.refl s)
  · next c _ =>
    split
    · exact .next (.refl s)
    · have hchecked : s.IntegratorsKept (s.checkParity .write c.addr c.enables c.data c.parity) :=
        .of_regions (by simp)
      have hrefused : ∀ {u : State} (mberr : Bool), s.IntegratorsKept u →
          s.IntegratorsKept (u.completeRefused c mberr) := fun _ h => h.leaving (by simp)
      dsimp only
      split
      · exact .next (hchecked.leaving rfl)
      · exact .next (hrefused _ (hchecked.leaving (by simp)))
      · exact .next (hrefused _ (hchecked.trans (State.countRefusal_integratorsKept _ _ _ c)))
      · exact .next (hrefused _ (hchecked.trans (State.countRefusal_integratorsKept _ _ _ c)))

theorem execWriteCompletion_integratorsKept (s : State) : Answers (execWriteCompletion s) s.IntegratorsKept := by
  unfold execWriteCompletion
  split
  · exact .next (.refl s)
  · next m _ =>
    split
    · have hanswered : s.IntegratorsKept (s.answerMaster none) := .of_regions (by simp)
      exact .next (hanswered.trans (State.consumeWrite_integratorsKept _ m.addr m.enables m.data)).releasePort
    · exact .next (.refl s)

theorem execReadCompletion_integratorsKept (data : Word) (parity : BitVec 2) (s : State) :
    Answers (execReadCompletion data parity s) s.IntegratorsKept := by
  unfold execReadCompletion
  split
  · exact .next (.refl s)
  · next m _ =>
    split
    · have hchecked : s.IntegratorsKept ((s.answerMaster (some ⟨data, parity⟩)).checkParity .read m.addr m.enables
          data parity) := .of_regions (by simp)
      exact .next (hchecked.trans
        (State.consumeRead_integratorsKept _ m.addr m.enables data parity)).releasePort
    · exact .next (.refl s)

theorem execPrimeGrant_integratorsKept (s : State) : Answers (execPrimeGrant s) s.IntegratorsKept := by
  unfold execPrimeGrant
  split
  · split
    · exact .next (.refl s)
    · next r _ =>
      split
      · next k cursor _ =>
        exact .next ((State.modRegion_integratorsKept (s := s) (r := r)
          (f := fun x => { x with primeCursor := cursor }) id).leaving rfl)
      · have hgranted : s.IntegratorsKept { s with arb := { s.arb with award := none, lastBackground := .prime } } :=
          .of_regions rfl
        exact .next ((hgranted.trans (State.completePriming_integratorsKept _ r)).trans
          (State.primeStep_integratorsKept _)).arbitrate
  · exact .next (.refl s)

theorem execPrimeReadCompletion_integratorsKept (data : Word) (parity : BitVec 2) (s : State) :
    Answers (execPrimeReadCompletion data parity s) s.IntegratorsKept := by
  unfold execPrimeReadCompletion
  split
  · next p m _ _ =>
    split
    · have hchecked : s.IntegratorsKept (s.checkParity .read m.addr m.enables data parity) := .of_regions (by simp)
      have htaken := hchecked.trans (State.takePrime_integratorsKept _ p data)
      exact .next ((htaken.leaving (by rfl)).trans (State.primeStep_integratorsKept _)).releasePort
    · exact .next (.refl s)
  · exact .next (.refl s)

/-! ### Resets and time -/

theorem execFullReset_integratorsKept (s : State) : Answers (execFullReset s) s.IntegratorsKept := by
  unfold execFullReset
  split
  · exact .next ((s.fullReset_integratorsKept .lineFull).leaving rfl)
  · exact .next (.refl s)

theorem execPartialReset_integratorsKept (s : State) : Answers (execPartialReset s) s.IntegratorsKept := by
  unfold execPartialReset
  split
  · exact .next (s.partialReset_integratorsKept.leaving rfl)
  · exact .next (.refl s)

theorem execTclkPeriod_integratorsKept (s : State) : Answers (execTclkPeriod s) s.IntegratorsKept := by
  unfold execTclkPeriod
  split
  · exact .next s.tick_integratorsKept
  · exact .next (.of_regions rfl)

theorem execDecayTick_integratorsKept (s : State) : Answers (execDecayTick s) s.IntegratorsKept := by
  unfold execDecayTick
  split
  · have hloaded : s.IntegratorsKept { s with time := { s.time with countdown := s.time.decayDivider } } :=
      .of_regions rfl
    exact .next (hloaded.trans (State.decayAll_integratorsKept _))
  · exact .next (.refl s)

theorem execSettleExpiry_integratorsKept (s : State) : Answers (execSettleExpiry s) s.IntegratorsKept := by
  unfold execSettleExpiry
  split
  · exact .next (.refl s)
  · next e _ =>
    have hdropped : s.IntegratorsKept (s.dropEntry e.addr) := .of_regions rfl
    exact .next (hdropped.trans (State.recordChange_integratorsKept _ e.region e.addr e.confirmed e.candidate true
      false)).arbitrate

/-! ### Frames -/

/-- A frame keeps the integrators where the effect of its command does. -/
theorem runFrame_integratorsKept {spec : FrameSpec} (h : ∀ f u, State.IntegratorsKept u (spec.effect f u).1)
    (ops : List Byte) (act : FrameAct) (s : State) : Answers (.next (runFrame spec ops act s)) s.IntegratorsKept := by
  refine .next ?_
  rcases runFrame_cases spec ops act s with ⟨p, hp⟩ | ⟨f, p, p', hp⟩
  · rw [hp]
    exact .of_regions rfl
  · rw [hp]
    exact h f { s with port := p }

theorem plainFrame_integratorsKept {code : Byte} {effect : List Byte → State → State × ResultCode}
    (h : ∀ ops u, State.IntegratorsKept u (effect ops u).1) (ops : List Byte) (act : FrameAct) (s : State) :
    Answers (.next (runFrame (plainFrame code effect) ops act s)) s.IntegratorsKept :=
  runFrame_integratorsKept (fun f u => h f.ops u) ops act s

/-- A frame whose effect leaves the regions alone keeps the integrators. -/
theorem runFrame_integratorsKept_of_same {spec : FrameSpec} (h : ∀ f u, State.SameRegions u (spec.effect f u).1)
    (ops : List Byte) (act : FrameAct) (s : State) : Answers (.next (runFrame spec ops act s)) s.IntegratorsKept :=
  runFrame_integratorsKept (fun f u => (h f u).integratorsKept) ops act s

theorem plainFrame_integratorsKept_of_same {code : Byte} {effect : List Byte → State → State × ResultCode}
    (h : ∀ ops u, State.SameRegions u (effect ops u).1) (ops : List Byte) (act : FrameAct) (s : State) :
    Answers (.next (runFrame (plainFrame code effect) ops act s)) s.IntegratorsKept :=
  runFrame_integratorsKept_of_same (fun f u => h f.ops u) ops act s

theorem execBadCommand_integratorsKept (command : Option Byte) (act : FrameAct) (s : State) :
    Answers (execBadCommand command act s) s.IntegratorsKept := by
  unfold execBadCommand
  split
  · exact .next (.refl s)
  · exact runFrame_integratorsKept (fun _ u => .refl u) _ act s

/-! ### Every command -/

theorem exec_integratorsKept (c : Instr) (s : State) : Answers (exec c s) s.IntegratorsKept := by
  cases c with
  | readStatus act => exact runFrame_integratorsKept (fun _ u => .refl u) [] act s
  | readNotice act => exact runFrame_integratorsKept_of_same readNoticeFrame_sameRegions [] act s
  | clearNotice ops act => exact plainFrame_integratorsKept_of_same clearNoticeEffect_sameRegions ops act s
  | setNoticeMask ops act => exact plainFrame_integratorsKept_of_same setNoticeMaskEffect_sameRegions ops act s
  | stageRegion ops act => exact plainFrame_integratorsKept_of_same stageRegionEffect_sameRegions ops act s
  | commitRegion ops act => exact plainFrame_integratorsKept commitRegionEffect_integratorsKept ops act s
  | readRegion ops act => exact runFrame_integratorsKept_of_same readRegionFrame_sameRegions ops act s
  | enableRegion ops act => exact plainFrame_integratorsKept enableRegionEffect_integratorsKept ops act s
  | disableRegion ops act => exact plainFrame_integratorsKept disableRegionEffect_integratorsKept ops act s
  | releaseRegion ops act => exact plainFrame_integratorsKept releaseRegionEffect_integratorsKept ops act s
  | setSense ops act => exact plainFrame_integratorsKept setSenseEffect_integratorsKept ops act s
  | clearTrip ops act => exact plainFrame_integratorsKept clearTripEffect_integratorsKept ops act s
  | clearCounts ops act => exact plainFrame_integratorsKept clearCountsEffect_integratorsKept ops act s
  | setThresholds ops act => exact plainFrame_integratorsKept setThresholdsEffect_integratorsKept ops act s
  | loadLink ops act => exact plainFrame_integratorsKept_of_same loadLinkEffect_sameRegions ops act s
  | readLink ops act => exact runFrame_integratorsKept_of_same readLinkFrame_sameRegions ops act s
  | startDrain ops act => exact plainFrame_integratorsKept_of_same startDrainEffect_sameRegions ops act s
  | startDrainContinue act => exact plainFrame_integratorsKept_of_same startDrainEffect_sameRegions [0xFF] act s
  | stopDrain act => exact plainFrame_integratorsKept_of_same stopDrainEffect_sameRegions [] act s
  | flush act => exact plainFrame_integratorsKept_of_same flushEffect_sameRegions [] act s
  | abortDrain act => exact plainFrame_integratorsKept_of_same abortDrainEffect_sameRegions [] act s
  | popEvent act => exact runFrame_integratorsKept_of_same popEventFrame_sameRegions [] act s
  | discardQueue act => exact plainFrame_integratorsKept_of_same discardQueueEffect_sameRegions [] act s
  | unloadLink ops act => exact plainFrame_integratorsKept_of_same unloadLinkEffect_sameRegions ops act s
  | arm act => exact plainFrame_integratorsKept armEffect_integratorsKept [] act s
  | disarm act => exact plainFrame_integratorsKept disarmEffect_integratorsKept [] act s
  | resume act => exact plainFrame_integratorsKept_of_same resumeEffect_sameRegions [] act s
  | setTimebase ops act => exact plainFrame_integratorsKept_of_same setTimebaseEffect_sameRegions ops act s
  | setOptions ops act => exact plainFrame_integratorsKept_of_same setOptionsEffect_sameRegions ops act s
  | setShadowPointer ops act => exact plainFrame_integratorsKept_of_same setShadowPointerEffect_sameRegions ops act s
  | readShadow ops act => exact runFrame_integratorsKept_of_same readShadowFrame_sameRegions ops act s
  | reset act => exact plainFrame_integratorsKept (fun _ u => u.fullReset_integratorsKept .command) [] act s
  | badCommand command act => exact execBadCommand_integratorsKept command act s
  | masterCycleArrives moe mwe addr enables data parity =>
    exact (execMasterCycleArrives_sameRegions moe mwe addr enables data parity s).integratorsKept
  | masterCycleWithdrawn | masterCycleEnds => exact .next s.endMasterCycle_sameRegions.integratorsKept
  | writeGrant => exact execWriteGrant_integratorsKept s
  | readGrant => exact (execReadGrant_sameRegions s).integratorsKept
  | primeGrant => exact execPrimeGrant_integratorsKept s
  | drainGrant => exact (execDrainGrant_sameRegions s).integratorsKept
  | writeCompletion => exact execWriteCompletion_integratorsKept s
  | readCompletion data parity => exact execReadCompletion_integratorsKept data parity s
  | primeReadCompletion data parity => exact execPrimeReadCompletion_integratorsKept data parity s
  | drainWriteCompletion => exact (execDrainWriteCompletion_sameRegions s).integratorsKept
  | recordWriteCompletion => exact (execRecordWriteCompletion_sameRegions s).integratorsKept
  | padWriteCompletion => exact (execPadWriteCompletion_sameRegions s).integratorsKept
  | burstEnd => exact (execBurstEnd_sameRegions s).integratorsKept
  | snapEdge => exact (execSnapEdge_sameRegions s).integratorsKept
  | snapLineFalls | rstLineRises => exact .next (.of_regions rfl)
  | powerOnReset snap rst => exact .next ((s.fullReset_integratorsKept .power).leaving rfl)
  | fullReset => exact execFullReset_integratorsKept s
  | partialReset => exact execPartialReset_integratorsKept s
  | baseTick => exact .next s.tick_integratorsKept
  | decayTick => exact execDecayTick_integratorsKept s
  | settleExpiry => exact execSettleExpiry_integratorsKept s
  | flushComplete => exact (execFlushComplete_sameRegions s).integratorsKept
  | abortCarriedOut => exact (execAbortCarriedOut_sameRegions s).integratorsKept
  | lossPlacement => exact (execLossPlacement_sameRegions s).integratorsKept
  | tclkPeriod => exact execTclkPeriod_integratorsKept s

/-- Settles O57: each command keeps every record sound (`exec_integratorsKept`), and a step is the command at the front
of the queue. -/
theorem stepsKeepIntegratorsSound : Obligations.StepsKeepIntegratorsSound := by
  intro s t hstep hs
  unfold step at hstep
  split at hstep
  · cases hstep
    exact hs
  · next c rest _ =>
    have hkept := (exec_integratorsKept c { s with pending := rest }).of_next hstep
    exact t.integratorsSound_iff.2 fun r => hkept r (s.integratorsSound_iff.1 hs r)

end Sys2Proof.Machine
end

section
/-! The step statement of the Chain Table and the Drain Engine fails: it speaks of every state that meets its own two
invariants, and what would rule the counterexample out (a flush mark stands only while the drain is RUNNING) is not
among them. -/

namespace Sys2Proof.Machine

/-- The last link of a chain, ACTIVE with one record in it and room for one more. -/
def Link.lastActive : Link :=
  { Link.unloaded with capacity := 16, endOfChain := true, state := .active, fill := 1 }

/-- An abort is pending in STOPPED, and a flush mark stands at 0; FLUSH_COMPLETE comes next. -/
def State.markedAbort : State :=
  { State.reset with
    drain := { State.reset.drain with
      links := State.reset.drain.links.set (0 : Fin 8) Link.lastActive
      current := some 0
      mark := some ⟨0, .flush⟩
      abortPending := true }
    pending := [.flushComplete] }

theorem State.markedAbort_linksSound : State.markedAbort.linksSound := by
  unfold State.linksSound
  decide +kernel

theorem State.markedAbort_drainSound : State.markedAbort.drainSound := by
  refine ⟨by decide +kernel, by decide +kernel, by decide +kernel, by decide +kernel, by decide +kernel,
    by decide +kernel, fun f hf => ?_⟩
  have hidle : State.markedAbort.port.frame = none := rfl
  exact nomatch hidle.symm.trans hf

/-- Refutes O59: FLUSH_COMPLETE closes the link and ends the chain, so the drain becomes ENDED with the abort still
pending. The statement does not ask that a flush mark stands only while the drain is RUNNING (State.freezeSound). -/
theorem not_stepsKeepChainAndDrainSound : ¬ Obligations.StepsKeepChainAndDrainSound := by
  intro hstep
  obtain ⟨t, ht, habort, hended⟩ : ∃ t, step State.markedAbort = .next t ∧
      t.drain.abortPending = true ∧ t.drain.state = .ended :=
    ⟨_, rfl, by decide +kernel, by decide +kernel⟩
  obtain ⟨_, _, _, _, _, hstopped, _⟩ := hstep _ t ht State.markedAbort_linksSound State.markedAbort_drainSound
  exact absurd ((hstopped habort).symm.trans hended) nofun

end Sys2Proof.Machine
end

section
/-! A record created and a loss placed (R105, R109, R113 to R115, R117): what the queue and the notices become. -/

namespace Sys2Proof.Machine

/-- An entering record sets QUEUE_HIGH where it takes the depth to the high mark, and no other notice (R117). -/
theorem State.enterRecord_notices (s : State) (x : Record) :
    (s.enterRecord x).notices =
      if s.depth + 1 = s.queue.highMark then { s.notices with flags := s.notices.flags ||| 0x008 } else s.notices := by
  unfold State.enterRecord
  dsimp only
  split <;> rfl

/-- A record created with room sets the notices of its entry (R113, R117). -/
theorem State.createRecord_notices_room {s : State} (h : s.depth < 64) (b : Report) :
    (s.createRecord b).notices =
      if s.depth + 1 = s.queue.highMark then { s.notices with flags := s.notices.flags ||| 0x008 } else s.notices := by
  have hentered : s.createRecord b =
      ({ s with queue := { s.queue with nextSeq := s.queue.nextSeq + 1 } } : State).enterRecord (s.nextRecord b) :=
    if_pos h
  rw [hentered]
  exact State.enterRecord_notices _ _

/-- A record lost to a full queue sets LOSS (R114). -/
theorem State.createRecord_notices_full {s : State} (h : 64 ≤ s.depth) (b : Report) :
    (s.createRecord b).notices = { s.notices with flags := s.notices.flags ||| 0x010 } := by
  have hlost : s.createRecord b =
      ({ s with queue := { s.queue with nextSeq := s.queue.nextSeq + 1 } } : State).loseRecord (s.nextRecord b) :=
    if_neg (Nat.not_lt.mpr h)
  rw [hlost]
  rfl

/-- A placed LOSS record sets the notices of its entry (R115, R117). -/
theorem State.placeLoss_notices {s : State} (h : s.queue.lossCount ≠ 0 ∧ s.depth < 64) :
    s.placeLoss.notices =
      if s.depth + 1 = s.queue.highMark then { s.notices with flags := s.notices.flags ||| 0x008 } else s.notices := by
  have hplaced : s.placeLoss =
      ({ s with queue := { s.queue with nextSeq := s.queue.nextSeq + 1, lossCount := 0 } } : State).enterRecord
        (s.nextRecord { kind := .loss, valueA := s.queue.lossCount, valueB := s.queue.firstLost }) :=
    if_pos h
  rw [hplaced]
  exact State.enterRecord_notices _ _

/-- The row LOSS_PLACEMENT places a pending loss, and the arbiter decides again. -/
theorem execLossPlacement_eq (s : State) : exec .lossPlacement s = .next s.placeLoss.arbitrate := rfl

/-- A placement by the row itself leaves all but the queue, the notices and the arbiter's decision. -/
theorem State.placeLoss_arbitrate_eq (s : State) :
    s.placeLoss.arbitrate = { s with
      queue := s.placeLoss.arbitrate.queue
      notices := s.placeLoss.arbitrate.notices
      arb := { s.arb with award := s.placeLoss.arbitrate.arb.award } } := by
  refine s.placeLoss.arbitrate_eq.trans ?_
  simp

/-- Settles O48, by whether the queue has room, and for the placement whether a loss is pending too. -/
theorem queueTakesOrLosesRecords : Obligations.QueueTakesOrLosesRecords := by
  refine ⟨fun s b => ⟨⟨rfl, rfl, rfl⟩, s.createRecord_eq b, fun hroom => ?room, fun hfull => ?full⟩,
    fun s => ⟨fun hdue => ?placed, fun hnot => ?unplaced⟩⟩
  case room =>
    have hnotices := State.createRecord_notices_room hroom b
    exact ⟨State.createRecord_queue_room hroom b, fun hhigh => hnotices.trans (if_pos hhigh),
      fun hhigh => hnotices.trans (if_neg hhigh)⟩
  case full => exact ⟨State.createRecord_queue_full hfull b, State.createRecord_notices_full hfull b⟩
  case placed =>
    obtain ⟨hloss, hroom⟩ := hdue
    have hqueue : s.placeLoss.arbitrate.queue = s.placeLoss.queue := by simp
    have hnotices : s.placeLoss.arbitrate.notices = s.placeLoss.notices := by simp
    have hentry := hnotices.trans (State.placeLoss_notices ⟨hloss, hroom⟩)
    exact ⟨_, execLossPlacement_eq s, hqueue.trans (State.placeLoss_queue_placed hloss hroom),
      s.placeLoss_arbitrate_eq, fun hhigh => hentry.trans (if_pos hhigh), fun hhigh => hentry.trans (if_neg hhigh)⟩
  case unplaced =>
    refine ⟨_, execLossPlacement_eq s, ?_⟩
    rw [State.placeLoss_of_not hnot]
    exact s.arbitrate_eq

end Sys2Proof.Machine
end

section
/-! POP_EVENT and DISCARD_QUEUE (R115, R119 to R121): the frame that answers the head record, and the slots that both
free for a pending loss. -/

namespace Sys2Proof.Machine

/-! ### Freed slots -/

/-- The state with these records in the queue. -/
def State.withRecords (s : State) (records : List Record) : State :=
  { s with queue := { s.queue with records := records } }

/-- The LOSS record a placement makes: none where no loss is pending (R115). -/
def State.pendingLoss (s : State) : List Record :=
  if s.queue.lossCount = 0 then [] else
    [Record.make { kind := .loss, valueA := s.queue.lossCount, valueB := s.queue.firstLost }
      s.time.stamp s.queue.nextSeq]

/-- What POP_EVENT and DISCARD_QUEUE leave of `s`, the queue then holding `records` (R115, R119, R121): a pending loss
is placed, and the port becomes `port`. -/
def State.slotsFreed (s t : State) (records : List Record) (port : Port) : Prop :=
  t.queue.records = records ++ s.pendingLoss ∧ t.queue.lossCount = 0 ∧ t.port = port ∧
  (s.queue.lossCount = 0 → t.queue.nextSeq = s.queue.nextSeq ∧ t.notices = s.notices) ∧
  t.drain = s.drain ∧ t.regions = s.regions ∧ t.monitor = s.monitor ∧ t.path = s.path

/-- With room among the records left, the placement and the arbiter's decision free the slots. -/
theorem State.withRecords_slotsFreed (s : State) {records : List Record} (hroom : records.length < 64) :
    s.slotsFreed (s.withRecords records).placeLoss.arbitrate records s.port := by
  obtain ⟨hplaced, hloss⟩ := State.placeLoss_records (s := s.withRecords records) hroom
  have hrecords : (s.withRecords records).placeLoss.queue.records = records ++ s.pendingLoss := hplaced
  have hnone (h : s.queue.lossCount = 0) : (s.withRecords records).placeLoss = s.withRecords records :=
    State.placeLoss_of_not fun hdue => hdue.1 h
  refine ⟨?_, ?_, ?_, fun h => ?_, ?_⟩
  · simpa using hrecords
  · simpa using hloss
  · simp [State.withRecords]
  · rw [hnone h]
    simp [State.withRecords]
  · simp [State.withRecords]

/-- The end of the frame changes the port alone. -/
theorem State.slotsFreed.ended {s t : State} {records : List Record} {port : Port} (h : s.slotsFreed t records port)
    (result : ResultCode) :
    s.slotsFreed { t with port := t.port.ended result } records (port.ended result) := by
  obtain ⟨hrecords, hloss, hport, hrest⟩ := h
  exact ⟨hrecords, hloss, congrArg (Port.ended · result) hport, hrest⟩

/-! ### When the queue is busy -/

/-- The queue is busy while the drain is RUNNING or writes a record (R119, R121). -/
theorem State.queueBusy_iff (s : State) :
    s.queueBusy = true ↔ s.drain.state = .running ∨ s.drain.recordInFlight.isSome = true := by
  simp [State.queueBusy]

/-! ### The frame of POP_EVENT -/

/-- What POP_EVENT fixes when its command byte is received (R120). -/
def State.popLatch (s : State) : Latch := if s.queueBusy then .refused .busy else .head s.queue.records.head?

/-- The data that goes with what POP_EVENT has fixed (R119). -/
def Latch.popData : Latch → Option (List Byte)
  | .head (some r) => some r.bytes
  | .head none => some (List.replicate 16 0)
  | _ => none

theorem popEventFrame_receive (s : State) : popEventFrame.receive [] s = s.popLatch := rfl

/-- POP_EVENT takes its data once, from what it has fixed. -/
theorem popEventFrame_unit (f : Frame) (s : State) :
    popEventFrame.unit f s = if f.units = 0 then f.latch.popData else none := by
  simp only [popEventFrame]
  split <;> simp [*, Latch.popData]

/-- What is fixed is the same in every state of the frame. -/
theorem SerialOnly.popLatch {s u : State} (h : SerialOnly s u) : u.popLatch = s.popLatch := by
  rw [h]
  rfl

/-- The frame has fixed `latch` and still has `rest` to send of its one unit, taken when its first byte begins. -/
def Frame.stillPops (latch : Latch) (f : Frame) (rest : List Byte) : Prop :=
  f.latch = latch ∧
    (f.units = 0 ∧ f.data = [] ∧ rest = latch.popData.getD [] ∨ f.units ≠ 0 ∧ f.data = rest)

/-- The command byte fixes the answer (R120). -/
theorem receiveByte_popCommand (s : State) :
    receiveByte popEventFrame [] s Frame.fresh =
      { Frame.fresh with command := some 0x26, latch := s.popLatch } := rfl

/-- A later byte changes neither what is fixed nor what is left to send. -/
theorem receiveByte_stillPops {latch : Latch} {f : Frame} {rest : List Byte} (s : State)
    (hc : f.command = some 0x26) (hf : f.stillPops latch rest) :
    (receiveByte popEventFrame [] s f).stillPops latch rest := by
  have hlength : (f.ops ++ [([] : List Byte).getD f.ops.length 0]).length ≠ popEventFrame.operands := by
    simp [popEventFrame]
  simpa only [Frame.stillPops, receiveByte, hc, if_neg hlength] using hf

/-- The next byte is the next of the data, or 0x00 when none is left. -/
theorem nextByte_stillPops {latch : Latch} {f : Frame} {rest : List Byte} (s : State) (ho : f.ops ≠ [])
    (hf : f.stillPops latch rest) :
    (nextByte popEventFrame s f).1 = rest.headD 0 ∧
      (nextByte popEventFrame s f).2.stillPops latch rest.tail := by
  obtain ⟨hlatch, ⟨hunits, hempty, rfl⟩ | ⟨hunits, rfl⟩⟩ := hf
  · have hunit : popEventFrame.unit f s = latch.popData := by rw [popEventFrame_unit, if_pos hunits, hlatch]
    match hdata : latch.popData with
    | some (b :: more) => simp [nextByte_of_unit ho hempty (hunit.trans hdata), Frame.stillPops, hlatch]
    | some [] => simp [nextByte, ho, hempty, hunit, hdata, Frame.stillPops, hlatch, hunits]
    | none => simp [nextByte_of_none ho hempty (hunit.trans hdata), Frame.stillPops, hlatch, hunits, hempty, hdata]
  · have hunit : popEventFrame.unit f s = none := by rw [popEventFrame_unit, if_neg hunits]
    cases hdata : f.data with
    | nil => simp [nextByte_of_none ho hdata hunit, Frame.stillPops, hlatch, hunits, hdata]
    | cons b more => simp [nextByte_of_data popEventFrame s ho hdata, Frame.stillPops, hlatch, hunits]

/-- After the bytes of a whole frame of POP_EVENT: the data is sent, then 0x00, and the frame holds what was fixed. -/
theorem exchangeBytes_pop (s : State) (extra : Nat) :
    ∃ f, exchangeBytes popEventFrame [] (1 + extra) (openFrame s) =
        s.amid (s.popLatch.popData.getD []) (1 + extra) f ∧
      f.command = some 0x26 ∧ f.latch = s.popLatch := by
  cases extra with
  | zero => exact ⟨_, exchangeBytes_one rfl [] _ s, rfl, rfl⟩
  | succ n =>
    obtain ⟨f, hf, hc, _, hlatch, _⟩ := exchangeBytes_data (spec := popEventFrame) rfl []
      (s.popLatch.popData.getD []) s (Frame.stillPops s.popLatch)
      (fun u v hu _ => receiveByte_stillPops v rfl ⟨hu.popLatch, .inl ⟨rfl, rfl, rfl⟩⟩)
      (fun f rest u _ hc _ hs => receiveByte_stillPops u hc hs) (fun f rest u _ _ ho hs => nextByte_stillPops u ho hs) n
    rw [show 1 + (n + 1) = n + 2 by omega]
    exact ⟨f, hf, hc, hlatch⟩

/-- The whole frame of POP_EVENT: its data goes out, and its effect is that of what was fixed (R119, R120). -/
theorem popEvent_whole {s : State} (hidle : s.port.selected = false) (extra : Nat) :
    ∃ f, f.latch = s.popLatch ∧
      let u := s.amid (s.popLatch.popData.getD []) (1 + extra) f
      exec (.popEvent (.whole extra)) s = .next { (popEventFrame.effect f u).1 with
        port := (popEventFrame.effect f u).1.port.ended (popEventFrame.effect f u).2 } := by
  obtain ⟨f, hf, hc, hlatch⟩ := exchangeBytes_pop s extra
  refine ⟨f, hlatch, congrArg Host.Outcome.next ?_⟩
  have hlisted : popEventFrame.listed [] + extra = 1 + extra := rfl
  simp only [runFrame, hidle, Bool.false_eq_true, if_false, hlisted]
  rw [hf, closeFrame_of_frame rfl hc rfl]

/-! ### The effects -/

theorem popEventFrame_effect_refused {f : Frame} {result : ResultCode} (h : f.latch = .refused result) (s : State) :
    popEventFrame.effect f s = (s, result) := by
  simp [popEventFrame, h]

theorem popEventFrame_effect_empty {f : Frame} (h : f.latch = .head none) (s : State) :
    popEventFrame.effect f s = (s, .ok) := by
  simp [popEventFrame, h]

/-- The record fixed is still the head: it leaves the queue (R119). -/
theorem popEventFrame_effect_head {f : Frame} {s : State} {r : Record} {rest : List Record}
    (h : f.latch = .head (some r)) (hrecords : s.queue.records = r :: rest) :
    popEventFrame.effect f s = ((s.withRecords rest).placeLoss.arbitrate, .ok) := by
  simp [popEventFrame, h, hrecords, State.withRecords]

theorem discardQueueEffect_busy {s : State} (h : s.queueBusy = true) (ops : List Byte) :
    discardQueueEffect ops s = (s, .busy) :=
  if_pos h

theorem discardQueueEffect_free {s : State} (h : ¬s.queueBusy = true) (ops : List Byte) :
    discardQueueEffect ops s = ((s.withRecords []).placeLoss.arbitrate, .ok) :=
  if_neg h

/-! ### The commands -/

/-- POP_EVENT refused with BUSY sends no data and changes nothing but the port (R119, R177). -/
theorem popEvent_busy {s : State} (hidle : s.port.selected = false) (hbusy : s.queueBusy = true) (extra : Nat) :
    exec (.popEvent (.whole extra)) s = .next { s with port := s.exchanged [] (1 + extra) .busy } := by
  have hfixed : s.popLatch = .refused .busy := if_pos hbusy
  obtain ⟨f, hlatch, hrun⟩ := popEvent_whole hidle extra
  rw [hfixed] at hlatch hrun
  rw [hrun]
  simp only [popEventFrame_effect_refused hlatch]
  rfl

/-- POP_EVENT on an empty queue sends zeros and changes nothing but the port (R119). -/
theorem popEvent_empty {s : State} (hidle : s.port.selected = false) (hfree : ¬s.queueBusy = true)
    (hrecords : s.queue.records = []) (extra : Nat) :
    exec (.popEvent (.whole extra)) s = .next { s with port := s.exchanged (List.replicate 16 0) (1 + extra) .ok } := by
  have hfixed : s.popLatch = .head none := (if_neg hfree).trans (by rw [hrecords]; rfl)
  obtain ⟨f, hlatch, hrun⟩ := popEvent_whole hidle extra
  rw [hfixed] at hlatch hrun
  rw [hrun]
  simp only [popEventFrame_effect_empty hlatch]
  rfl

/-- POP_EVENT sends the head record, which leaves the queue (R115, R119). -/
theorem popEvent_head {s : State} {r : Record} {rest : List Record} (hidle : s.port.selected = false)
    (hfree : ¬s.queueBusy = true) (hrecords : s.queue.records = r :: rest) (hroom : rest.length < 64) (extra : Nat) :
    ∃ t, exec (.popEvent (.whole extra)) s = .next t ∧
      s.slotsFreed t rest (s.exchanged r.bytes (1 + extra) .ok) := by
  have hfixed : s.popLatch = .head (some r) := (if_neg hfree).trans (by rw [hrecords]; rfl)
  obtain ⟨f, hlatch, hrun⟩ := popEvent_whole hidle extra
  rw [hfixed] at hlatch hrun
  have heffect := popEventFrame_effect_head (s := s.amid r.bytes (1 + extra) f) hlatch hrecords
  have hfreed := (s.amid r.bytes (1 + extra) f).withRecords_slotsFreed hroom
  refine ⟨_, hrun, ?_⟩
  simp only [Latch.popData, Option.getD_some, heffect]
  exact hfreed.ended .ok

/-- DISCARD_QUEUE empties the queue (R115, R121). -/
theorem discardQueue_free {s : State} {ops : List Byte} (hframe : s.receiving 0x27 ops) (hfree : ¬s.queueBusy = true) :
    ∃ t, exec (.discardQueue .finish) s = .next t ∧ s.slotsFreed t [] (s.port.ended .ok) := by
  refine ⟨_, congrArg Host.Outcome.next (runFrame_plain_finish hframe []), ?_⟩
  simp only [discardQueueEffect_free hfree]
  exact (s.withRecords_slotsFreed (records := []) (by decide)).ended .ok

/-- DISCARD_QUEUE refused with BUSY (R121). -/
theorem discardQueue_busy {s : State} {ops : List Byte} (hframe : s.receiving 0x27 ops) (hbusy : s.queueBusy = true) :
    exec (.discardQueue .finish) s = .next (s.frameEnded .busy) := by
  refine congrArg Host.Outcome.next ((runFrame_plain_finish hframe []).trans ?_)
  rw [discardQueueEffect_busy hbusy]
  rfl

/-- Settles O35, by whether the queue is busy and, for POP_EVENT, whether it is empty. -/
theorem popAndDiscardFreeSlots : Obligations.PopAndDiscardFreeSlots := by
  unfold Obligations.PopAndDiscardFreeSlots
  intro busy loss
  have free : ∀ {s : State}, ¬busy s → ¬s.queueBusy = true := fun h hbusy => h ((State.queueBusy_iff _).mp hbusy)
  refine ⟨fun extra s hidle => ⟨fun hbusy => ?_, fun hfree hrecords => ?_, fun hfree r rest hrecords hroom => ?_⟩,
    fun s ops hframe => ⟨fun hbusy => ?_, fun hfree => ?_⟩⟩
  · exact popEvent_busy hidle ((State.queueBusy_iff s).mpr hbusy) extra
  · exact popEvent_empty hidle (free hfree) hrecords extra
  · exact popEvent_head hidle (free hfree) hrecords hroom extra
  · exact discardQueue_busy hframe ((State.queueBusy_iff s).mpr hbusy)
  · exact discardQueue_free hframe (free hfree)

end Sys2Proof.Machine
end

section
/-! The check word (R108): the words of a record as Table 6-1 has them, what an exclusive-or detects, and the records of
the queue, which stay as created. -/

namespace Sys2Proof.Machine

/-! ### Word 0 of a record -/

/-- Bits 15 to 12 of word 0: the kind (Tables 6-1, 6-2). -/
def Report.kindField (b : Report) : Word := b.kind.code <<< 12

/-- Bits 11 to 6 of word 0: region present, and its index (Table 6-1). -/
def Report.regionField (b : Report) : Word := b.region.elim 0 fun i => 0x0800 ||| (BitVec.ofNat 16 i.val <<< 6)

/-- Bits 5 to 3 of word 0: SETTLED, UNSETTLED and the direction (Table 6-1). -/
def Report.flagField (b : Report) : Word :=
  (if b.settled then 0x0020 else 0) ||| (if b.unsettled then 0x0010 else 0) |||
    (if b.direction = .read then 0x0008 else 0)

theorem Report.word0_eq (b : Report) : b.word0 = b.kindField ||| b.regionField ||| b.flagField := by
  have hparts : b.word0 = b.kindField ||| b.regionField ||| (if b.settled then 0x0020 else 0) |||
      (if b.unsettled then 0x0010 else 0) ||| (if b.direction = .read then 0x0008 else 0) := by
    unfold Report.word0 Report.regionField
    cases b.region <;> rfl
  rw [hparts, Report.flagField]
  simp only [BitVec.or_assoc]

theorem Report.kindField_reads (b : Report) :
    b.kindField.extractLsb' 12 4 = b.kind.code.setWidth 4 ∧ b.kindField.getLsbD 11 = false ∧
    b.kindField.extractLsb' 6 5 = 0 ∧ b.kindField.getLsbD 5 = false ∧ b.kindField.getLsbD 4 = false ∧
    b.kindField.getLsbD 3 = false ∧ b.kindField.extractLsb' 0 3 = 0 := by
  unfold Report.kindField
  cases b.kind <;> decide

theorem Report.regionField_reads (b : Report) :
    b.regionField.extractLsb' 12 4 = 0 ∧ b.regionField.getLsbD 11 = b.region.isSome ∧
    b.regionField.extractLsb' 6 5 = b.region.elim 0 (fun i => BitVec.ofNat 5 i.val) ∧
    b.regionField.getLsbD 5 = false ∧ b.regionField.getLsbD 4 = false ∧ b.regionField.getLsbD 3 = false ∧
    b.regionField.extractLsb' 0 3 = 0 := by
  unfold Report.regionField
  cases b.region with
  | none => decide
  | some i => revert i; decide

theorem Report.flagField_reads (b : Report) :
    b.flagField.extractLsb' 12 4 = 0 ∧ b.flagField.getLsbD 11 = false ∧ b.flagField.extractLsb' 6 5 = 0 ∧
    b.flagField.getLsbD 5 = b.settled ∧ b.flagField.getLsbD 4 = b.unsettled ∧
    b.flagField.getLsbD 3 = decide (b.direction = .read) ∧ b.flagField.extractLsb' 0 3 = 0 := by
  unfold Report.flagField
  cases b.settled <;> cases b.unsettled <;> cases b.direction <;> decide

/-- The fields of word 0 as Table 6-1 lays them out. -/
theorem Report.word0_reads (b : Report) :
    b.word0.extractLsb' 12 4 = b.kind.code.setWidth 4 ∧ b.word0.getLsbD 11 = b.region.isSome ∧
    b.word0.extractLsb' 6 5 = b.region.elim 0 (fun i => BitVec.ofNat 5 i.val) ∧
    b.word0.getLsbD 5 = b.settled ∧ b.word0.getLsbD 4 = b.unsettled ∧
    b.word0.getLsbD 3 = decide (b.direction = .read) ∧ b.word0.extractLsb' 0 3 = 0 := by
  simp only [Report.word0_eq, BitVec.extractLsb'_or, BitVec.getLsbD_or, b.kindField_reads, b.regionField_reads,
    b.flagField_reads]
  simp

/-- No record's kind code is 0 (Table 6-2). -/
theorem Kind.code_ne_zero (k : Kind) : k.code.setWidth 4 ≠ 0 := by
  cases k <;> decide

theorem Report.word1_some {b : Report} {a : Addr} (h : b.addr = some a) :
    b.word1 = 0x8000 ||| (a.extractLsb' 16 4).setWidth 16 := by
  simp [Report.word1, h]

theorem Report.word2_some {b : Report} {a : Addr} (h : b.addr = some a) : b.word2 = a.setWidth 16 := by
  simp [Report.word2, h]

theorem Report.addressWords_none {b : Report} (h : b.addr = none) : b.word1 = 0 ∧ b.word2 = 0 := by
  simp [Report.word1, Report.word2, h]

/-! ### The exclusive-or of words -/

/-- A running exclusive-or factors out. -/
theorem xorWords_from (ws : List Word) (x : Word) : ws.foldl (· ^^^ ·) x = x ^^^ xorWords ws := by
  unfold xorWords
  induction ws generalizing x with
  | nil => simp
  | cons w rest ih =>
    rw [List.foldl_cons, List.foldl_cons, ih, ih (0 ^^^ w)]
    simp [BitVec.xor_assoc]

theorem xorWords_cons (w : Word) (ws : List Word) : xorWords (w :: ws) = w ^^^ xorWords ws := by
  rw [xorWords, List.foldl_cons, xorWords_from]
  simp

/-- A word changed to `x` shows in the exclusive-or as the difference. -/
theorem xorWords_set (ws : List Word) {n : Nat} (h : n < ws.length) (x : Word) :
    xorWords (ws.set n x) = xorWords ws ^^^ (ws[n] ^^^ x) := by
  induction ws generalizing n with
  | nil => exact absurd h (Nat.not_lt_zero n)
  | cons w rest ih =>
    cases n with
    | zero =>
      simp only [List.set_cons_zero, xorWords_cons, List.getElem_cons_zero]
      rw [BitVec.xor_comm w, BitVec.xor_assoc, ← BitVec.xor_assoc w, BitVec.xor_self, BitVec.zero_xor,
        BitVec.xor_comm]
    | succ n =>
      simp only [List.set_cons_succ, xorWords_cons, List.getElem_cons_succ, ih (Nat.lt_of_succ_lt_succ h),
        BitVec.xor_assoc]

/-- The exclusive-or of the differences is the difference of the exclusive-ors. -/
theorem xorWords_zipWith {ws read : List Word} (h : ws.length = read.length) :
    xorWords (List.zipWith (· ^^^ ·) ws read) = xorWords ws ^^^ xorWords read := by
  induction ws generalizing read with
  | nil =>
    rw [List.length_eq_zero_iff.mp h.symm]
    rfl
  | cons w rest ih =>
    cases read with
    | nil => cases h
    | cons x more =>
      rw [List.zipWith_cons_cons, xorWords_cons, xorWords_cons, xorWords_cons, ih (Nat.succ.inj h)]
      grind

/-- One wrong word of an intact record is detected. -/
theorem xorWords_set_ne_zero {ws : List Word} (hintact : xorWords ws = 0) {n : Nat} {wrong : Word}
    (hn : n < ws.length) (hwrong : ws[n]? ≠ some wrong) : xorWords (ws.set n wrong) ≠ 0 := by
  have hdifference : xorWords (ws.set n wrong) = ws[n] ^^^ wrong := by
    rw [xorWords_set ws hn, hintact]
    simp
  rw [hdifference]
  intro h
  exact hwrong (by rw [List.getElem?_eq_getElem hn, BitVec.xor_eq_zero_iff.mp h])

/-! ### The records of the queue stay as created -/

/-- The record is one that a creation has made (R105, R108). -/
def Record.created (r : Record) : Prop := ∃ b stamp seq, r = Record.make b stamp seq

/-- Created records, or none, enter the queue at the tail (R109, R115). -/
def State.appends (s t : State) : Prop :=
  ∃ new, t.queue.records = s.queue.records ++ new ∧ ∀ r ∈ new, r.created

/-- Some of the records of `s` may have left from the head, and created ones entered at the tail (R108). -/
def State.recordsKept (s t : State) : Prop :=
  ∃ kept new, t.queue.records = kept ++ new ∧ kept <:+ s.queue.records ∧ ∀ r ∈ new, r.created

theorem State.appends_of_records {s t : State} (h : t.queue.records = s.queue.records) : s.appends t :=
  ⟨[], by simpa using h, by simp⟩

theorem State.appends_one {s t : State} {b : Report} {stamp seq : Word}
    (h : t.queue.records = s.queue.records ++ [Record.make b stamp seq]) : s.appends t :=
  ⟨_, h, fun _ hr => ⟨b, stamp, seq, List.mem_singleton.mp hr⟩⟩

theorem State.createRecord_appends (s : State) (b : Report) : s.appends (s.createRecord b) := by
  rcases Nat.lt_or_ge s.queue.records.length 64 with hroom | hfull
  · exact State.appends_one (by rw [State.createRecord_queue_room hroom])
  · exact State.appends_of_records (by rw [State.createRecord_queue_full hfull])

theorem State.placeLoss_appends (s : State) : s.appends s.placeLoss := by
  by_cases h : s.queue.lossCount ≠ 0 ∧ s.queue.records.length < 64
  · exact State.appends_one (congrArg EventQueue.records (State.placeLoss_queue_placed h.1 h.2))
  · exact State.appends_of_records (by rw [State.placeLoss_of_not h])

theorem State.recordsKept.refl (s : State) : s.recordsKept s :=
  ⟨s.queue.records, [], by simp, List.suffix_refl _, by simp⟩

theorem State.recordsKept.append {s t u : State} (h : s.recordsKept t) (hu : t.appends u) : s.recordsKept u := by
  obtain ⟨kept, new, hrecords, hkept, hnew⟩ := h
  obtain ⟨more, hmore, hcreated⟩ := hu
  refine ⟨kept, new ++ more, by rw [hmore, hrecords, List.append_assoc], hkept, fun r hr => ?_⟩
  exact (List.mem_append.mp hr).elim (hnew r) (hcreated r)

theorem State.recordsKept.same {s t u : State} (h : s.recordsKept t) (hu : u.queue.records = t.queue.records) :
    s.recordsKept u :=
  h.append (State.appends_of_records hu)

theorem State.recordsKept.drop {s t : State} (h : s.recordsKept t) (n : Nat) :
    s.recordsKept { t with queue := { t.queue with records := t.queue.records.drop n } } := by
  obtain ⟨kept, new, hrecords, hkept, hnew⟩ := h
  refine ⟨kept.drop n, new.drop (n - kept.length), ?_, (List.drop_suffix n kept).trans hkept,
    fun r hr => hnew r (List.mem_of_mem_drop hr)⟩
  dsimp only
  rw [hrecords, List.drop_append]

theorem State.recordsKept_of_empty {s t : State} (h : t.queue.records = []) : s.recordsKept t :=
  ⟨[], [], h, List.nil_suffix, by simp⟩

/-- Every move keeps the records as created. -/
theorem State.Move.recordsKept {s t u : State} (hmove : t.Move u) (h : s.recordsKept t) : s.recordsKept u := by
  cases hmove with
  | still hsame =>
    obtain ⟨hqueue, _⟩ := hsame
    exact h.same (by rw [hqueue])
  | created b => exact h.append (t.createRecord_appends b)
  | freed n => exact (h.drop n).append (State.placeLoss_appends _)
  | noticed | reported | cleared | frozen | counted | reloaded | burst => exact h
  | options ops => exact h.same (setOptionsEffect_queue ops t).1
  | timebase ops => exact h.same (by rw [setTimebaseEffect_eq])
  | ticked => exact h.same (by simp)
  | line hline =>
    obtain ⟨hqueue, _⟩ := hline.frame
    exact h.same (by rw [hqueue])
  | fullReset cause => exact State.recordsKept_of_empty (by simp [State.fullReset])
  | partialReset => exact State.recordsKept_of_empty (by simp [State.partialReset])

/-- Every command keeps the records as created (R108). -/
theorem exec_recordsKept {c : Instr} {s t : State} (h : exec c s = .next t) : s.recordsKept t := by
  obtain ⟨u, hu, hmoves⟩ := exec_moves c s
  cases hu.symm.trans h
  exact hmoves.keeps State.Move.recordsKept (.refl s)

/-- Settles O49: the words of a record are read field by field (`Report.word0_reads`), detection is `xorWords_set` and
`xorWords_zipWith`, and the queue is checked move by move (`exec_recordsKept`). -/
theorem checkWordMakesRecordsIntact : Obligations.CheckWordMakesRecordsIntact := by
  refine ⟨fun b stamp seq => ?record, by decide, fun c s t h => exec_recordsKept h,
    fun s i r rest k hcurrent hrecords => ?driven⟩
  case record =>
    obtain ⟨hkind, hpresent, hindex, hsettled, hunsettled, hdirection, hzero⟩ := b.word0_reads
    have hintact := Record.make_intact b stamp seq
    refine ⟨b.word0, b.word1, b.word2, rfl, ?_, hkind, hkind ▸ b.kind.code_ne_zero, hpresent, fun i hi => ?_,
      fun hnone => ?_, hsettled, hunsettled, hdirection, hzero,
      fun a ha => ⟨Report.word1_some ha, Report.word2_some ha⟩, Report.addressWords_none, hintact,
      fun n wrong hwrong => xorWords_set_ne_zero hintact n.isLt hwrong, fun read hlength => ?_⟩
    · simp [Record.make, Report.words, xorWords]
    · rw [hindex, hi]
      simp
    · rw [hindex, hnone]
      rfl
    · have hlengths : (Record.make b stamp seq).words.length = read.length := hlength.symm
      rw [xorWords_zipWith hlengths, hintact]
      simp
  case driven =>
    rw [State.driveWord_eq hcurrent hrecords]
    rfl

end Sys2Proof.Machine
end

section
/-! The commands of the Chain Table and of the Drain Engine that load, unload, start and stop (R127 to R130, R133, R134,
R139, R144): what each effect refuses, in its order, and what it leaves. -/

namespace Sys2Proof.Machine

/-! ### The rise of a frame whose effect ends in a decision of the arbiter -/

/-- A frame without data whose effect ends in a decision of the arbiter (R29) answers the state the decision finds, but
for the decision, with the frame gone and its result held. -/
theorem finish_of_arbitrate {code : Byte} {effect : List Byte → State → State × ResultCode} {ops : List Byte}
    {s u : State} {result : ResultCode} (h : s.receiving code ops) (given : List Byte)
    (he : effect ops s = (u.arbitrate, result)) :
    ∃ t : State, Host.Outcome.next (φ := Fault) (ρ := Refusal) (runFrame (plainFrame code effect) given .finish s) =
      .next t ∧ t = { u with arb := { u.arb with award := t.arb.award }, port := u.port.ended result } := by
  refine ⟨_, finish_of_effect h given he, ?_⟩
  rw [State.arbitrate_eq]

/-! ### LOAD_LINK -/

/-- The buffer and the next index are in range (R127). -/
def bufferFits (base capacity next : Nat) : Prop :=
  base ≤ 0xFFFFF ∧ 8 ≤ capacity ∧ base + capacity - 1 ≤ 0xFFFFF ∧ next < 8

/-- The buffer for link `i` meets no committed region with a shadow and no other live buffer (R128). -/
def State.bufferClear (s : State) (i : Fin 8) (base last : Nat) : Prop :=
  (∀ r : Fin 32, (s.region r).committed → (s.region r).cfg.shadowed →
    last < (s.region r).cfg.base.toNat ∨ (s.region r).cfg.limit.toNat < base) ∧
  (∀ j : Fin 8, j ≠ i → (s.link j).liveBuffer → last < (s.link j).base.toNat ∨ (s.link j).lastWord < base)

/-- The base of a loaded link as a word address (R127). -/
theorem loadedLink_eq (base : BitVec 24) (capacity : Word) (next : Fin 8) (flags : Byte) :
    loadedLink base capacity next flags = {
      base := BitVec.ofNat 20 base.toNat
      capacity := capacity
      next := next
      endOfChain := flags.getLsbD 0
      notify := flags.getLsbD 1
      state := .ready
      fill := 0
      closeReason := none } := by
  simp only [loadedLink, BitVec.ofNat_toNat]

theorem rangesMeet_eq_false_iff (base limit base' limit' : Nat) :
    rangesMeet base limit base' limit' = false ↔ limit < base' ∨ limit' < base := by
  refine ⟨fun h => ?_, rangesMeet_eq_false⟩
  simp only [rangesMeet, Bool.and_eq_false_iff, decide_eq_false_iff_not] at h
  omega

theorem State.bufferMeetsRegion_eq_false_iff (s : State) (base last : Nat) :
    s.bufferMeetsRegion base last = false ↔ ∀ r : Fin 32, (s.region r).committed → (s.region r).cfg.shadowed →
      last < (s.region r).cfg.base.toNat ∨ (s.region r).cfg.limit.toNat < base := by
  simp only [State.bufferMeetsRegion, List.any_eq_false, List.mem_finRange, forall_const, Bool.and_eq_true, not_and,
    Bool.not_eq_true, rangesMeet_eq_false_iff, and_imp]

theorem State.bufferMeetsLink_eq_false_iff (s : State) (i : Fin 8) (base last : Nat) :
    s.bufferMeetsLink i base last = false ↔ ∀ j : Fin 8, j ≠ i → (s.link j).liveBuffer →
      last < (s.link j).base.toNat ∨ (s.link j).lastWord < base := by
  simp only [State.bufferMeetsLink, List.any_eq_false, List.mem_finRange, forall_const, Bool.and_eq_true,
    decide_eq_true_eq, not_and, Bool.not_eq_true, rangesMeet_eq_false_iff, and_imp]

theorem State.bufferClear_iff (s : State) (i : Fin 8) (base last : Nat) :
    s.bufferClear i base last ↔ ¬(s.bufferMeetsRegion base last = true ∨ s.bufferMeetsLink i base last = true) := by
  rw [not_or, Bool.not_eq_true, Bool.not_eq_true, State.bufferMeetsRegion_eq_false_iff,
    State.bufferMeetsLink_eq_false_iff]
  exact Iff.rfl

section
variable {s : State} {index b2 b1 b0 c1 c0 next flags : Byte} (rest : List Byte)

theorem loadLinkEffect_badIndex (h : 8 ≤ index.toNat) :
    loadLinkEffect (index :: b2 :: b1 :: b0 :: c1 :: c0 :: next :: flags :: rest) s = (s, .badIndex) := by
  simp only [loadLinkEffect, linkIndex_of_ge h]

variable {i : Fin 8} (hindex : index.toNat = i.val)
include hindex

theorem loadLinkEffect_busy (hactive : (s.link i).state = .active) :
    loadLinkEffect (index :: b2 :: b1 :: b0 :: c1 :: c0 :: next :: flags :: rest) s = (s, .busy) := by
  simp only [loadLinkEffect, linkIndex_of_val hindex, if_pos hactive]

variable (hfree : (s.link i).state ≠ .active)
include hfree

theorem loadLinkEffect_badRange (h : ¬bufferFits (value24 b2 b1 b0).toNat (wordOf c1 c0).toNat next.toNat) :
    loadLinkEffect (index :: b2 :: b1 :: b0 :: c1 :: c0 :: next :: flags :: rest) s = (s, .badRange) := by
  simp only [loadLinkEffect, linkIndex_of_val hindex, if_neg hfree]
  rcases Nat.lt_or_ge next.toNat 8 with hnext | hnext
  · simp only [linkIndex_of_val (i := ⟨next.toNat, hnext⟩) rfl]
    refine if_pos ?_
    unfold bufferFits at h
    omega
  · simp only [linkIndex_of_ge hnext]

variable (hfits : bufferFits (value24 b2 b1 b0).toNat (wordOf c1 c0).toNat next.toNat)
include hfits

theorem loadLinkEffect_overlap
    (h : ¬s.bufferClear i (value24 b2 b1 b0).toNat ((value24 b2 b1 b0).toNat + (wordOf c1 c0).toNat - 1)) :
    loadLinkEffect (index :: b2 :: b1 :: b0 :: c1 :: c0 :: next :: flags :: rest) s = (s, .overlap) := by
  obtain ⟨hbase, hcapacity, hlast, hnext⟩ := hfits
  simp only [loadLinkEffect, linkIndex_of_val hindex, if_neg hfree, linkIndex_of_val (i := ⟨next.toNat, hnext⟩) rfl]
  rw [State.bufferClear_iff, not_not] at h
  rw [if_neg (by omega), if_pos h]

variable (hclear : s.bufferClear i (value24 b2 b1 b0).toNat ((value24 b2 b1 b0).toNat + (wordOf c1 c0).toNat - 1))
  {n : Fin 8} (hnext : next.toNat = n.val)
include hclear hnext

/-- Every check of LOAD_LINK passed: what is left is whether a STARVED drain takes the link (R129). -/
theorem loadLinkEffect_loads :
    let loaded := s.setLink i (loadedLink (value24 b2 b1 b0) (wordOf c1 c0) n flags)
    loadLinkEffect (index :: b2 :: b1 :: b0 :: c1 :: c0 :: next :: flags :: rest) s =
      if s.drain.state = .starved ∧ s.drain.pointer = i then ((loaded.activateLink i).arbitrate, .ok)
      else (loaded, .ok) := by
  obtain ⟨hbase, hcapacity, hlast, _⟩ := hfits
  simp only [loadLinkEffect, linkIndex_of_val hindex, if_neg hfree, linkIndex_of_val hnext]
  rw [if_neg (by omega), if_neg ((s.bufferClear_iff i _ _).mp hclear)]

end

/-! ### UNLOAD_LINK -/

section
variable {s : State} {index : Byte} (rest : List Byte)

theorem unloadLinkEffect_badIndex (h : 8 ≤ index.toNat) :
    unloadLinkEffect (index :: rest) s = (s, .badIndex) := by
  simp only [unloadLinkEffect, linkIndex_of_ge h]

variable {i : Fin 8} (hindex : index.toNat = i.val)
include hindex

theorem unloadLinkEffect_busy (h : (s.link i).state = .active) : unloadLinkEffect (index :: rest) s = (s, .busy) := by
  simp only [unloadLinkEffect, linkIndex_of_val hindex, h]

theorem unloadLinkEffect_badState (h : (s.link i).state = .empty) :
    unloadLinkEffect (index :: rest) s = (s, .badState) := by
  simp only [unloadLinkEffect, linkIndex_of_val hindex, h]

theorem unloadLinkEffect_empties (h : (s.link i).state = .ready ∨ (s.link i).state = .done) :
    unloadLinkEffect (index :: rest) s =
      (s.setLink i { s.link i with state := .empty, fill := 0, closeReason := none }, .ok) := by
  rcases h with h | h <;> simp only [unloadLinkEffect, linkIndex_of_val hindex, h]

end

/-- Settles O30, check by check in the order of R127; what is loaded and taken at once are the two cases of
`loadLinkEffect_loads`. -/
theorem loadAndUnloadLink : Obligations.LoadAndUnloadLink := by
  refine ⟨fun s index b2 b1 b0 c1 c0 next flags rest hrecv => ⟨fun hge => ?badIndex, fun i hindex =>
      ⟨fun hactive => ?busy, fun hfree hunfit => ?badRange, fun hfree hfits hmeets => ?overlap,
        fun hfree hfits hclear n hnext => ?loads⟩⟩,
    fun s index rest hrecv => ⟨fun hge => ?unloadBadIndex, fun i hindex =>
      ⟨fun hactive => ?unloadBusy, fun hempty => ?unloadBadState, fun hholds => ?unloads⟩⟩⟩
  case badIndex => exact finish_of_effect hrecv _ (loadLinkEffect_badIndex rest hge)
  case busy => exact finish_of_effect hrecv _ (loadLinkEffect_busy rest hindex hactive)
  case badRange => exact finish_of_effect hrecv _ (loadLinkEffect_badRange rest hindex hfree hunfit)
  case overlap => exact finish_of_effect hrecv _ (loadLinkEffect_overlap rest hindex hfree hfits hmeets)
  case loads =>
    have heffect := loadLinkEffect_loads (flags := flags) rest hindex hfree hfits hclear hnext
    rw [loadedLink_eq] at heffect
    refine ⟨fun hready => finish_of_effect hrecv _ (heffect.trans (if_neg hready)), fun htaken => ?_⟩
    obtain ⟨t, hrun, ht⟩ := finish_of_arbitrate hrecv _ (heffect.trans (if_pos htaken))
    refine ⟨t, hrun, ht.trans ?_⟩
    simp [State.activateLink]
  case unloadBadIndex => exact finish_of_effect hrecv _ (unloadLinkEffect_badIndex rest hge)
  case unloadBusy => exact finish_of_effect hrecv _ (unloadLinkEffect_busy rest hindex hactive)
  case unloadBadState => exact finish_of_effect hrecv _ (unloadLinkEffect_badState rest hindex hempty)
  case unloads => exact finish_of_effect hrecv _ (unloadLinkEffect_empties rest hindex hholds)

/-! ### START_DRAIN -/

section
variable {s : State}

theorem startDrainEffect_badIndex {index : Byte} (rest : List Byte) (hne : index ≠ 0xFF) (h : 8 ≤ index.toNat) :
    startDrainEffect (index :: rest) s = (s, .badIndex) := by
  simp only [startDrainEffect, if_neg hne, linkIndex_of_ge h]

theorem startDrainEffect_names {index : Byte} {i : Fin 8} (rest : List Byte) (hne : index ≠ 0xFF)
    (h : index.toNat = i.val) : startDrainEffect (index :: rest) s = s.startDrainAt i := by
  simp only [startDrainEffect, if_neg hne, linkIndex_of_val h]

theorem startDrainEffect_continues (rest : List Byte) : startDrainEffect (0xFF :: rest) s = s.continueDrain := by
  simp only [startDrainEffect, if_true]

theorem State.startDrainAt_busy (i : Fin 8) (h : s.drain.abortPending = true) : s.startDrainAt i = (s, .busy) :=
  if_pos h

theorem State.continueDrain_busy (h : s.drain.abortPending = true) : s.continueDrain = (s, .busy) :=
  if_pos h

variable (hsettled : s.drain.abortPending = false)
include hsettled

theorem State.startDrainAt_badState {i : Fin 8}
    (h : ¬((s.drain.state = .stopped ∨ s.drain.state = .ended) ∧ s.drain.current = none ∧
      (s.link i).state = .ready)) : s.startDrainAt i = (s, .badState) := by
  rw [State.startDrainAt, if_neg (Bool.eq_false_iff.mp hsettled), if_neg h]

theorem State.startDrainAt_starts {i : Fin 8}
    (h : (s.drain.state = .stopped ∨ s.drain.state = .ended) ∧ s.drain.current = none ∧
      (s.link i).state = .ready) :
    s.startDrainAt i =
      ((({ s with drain := { s.drain with pointer := i } } : State).activateLink i).arbitrate, .ok) := by
  rw [State.startDrainAt, if_neg (Bool.eq_false_iff.mp hsettled), if_pos h]

theorem State.continueDrain_badState (h : s.drain.state ≠ .stopped) : s.continueDrain = (s, .badState) := by
  rw [State.continueDrain, if_neg (Bool.eq_false_iff.mp hsettled), if_pos h]

variable (hstopped : s.drain.state = .stopped)
include hstopped

theorem State.continueDrain_resumes (h : s.drain.current.isSome = true) :
    s.continueDrain = (({ s with drain := { s.drain with state := .running } } : State).arbitrate, .ok) := by
  rw [State.continueDrain, if_neg (Bool.eq_false_iff.mp hsettled), if_neg (not_not.mpr hstopped), if_pos h]

variable (hnone : s.drain.current = none)
include hnone

theorem State.continueDrain_activates (h : (s.link s.drain.pointer).state = .ready) :
    s.continueDrain = ((s.activateLink s.drain.pointer).arbitrate, .ok) := by
  rw [State.continueDrain, if_neg (Bool.eq_false_iff.mp hsettled), if_neg (not_not.mpr hstopped),
    if_neg (by simp [hnone]), if_pos h]

theorem State.continueDrain_starves (h : (s.link s.drain.pointer).state ≠ .ready) :
    s.continueDrain = (s.starve, .ok) := by
  rw [State.continueDrain, if_neg (Bool.eq_false_iff.mp hsettled), if_neg (not_not.mpr hstopped),
    if_neg (by simp [hnone]), if_neg h]

end

/-- Settles O31, branch by branch of `State.startDrainAt` and `State.continueDrain`. -/
theorem startDrainNamesOrContinues : Obligations.StartDrainNamesOrContinues := by
  refine ⟨fun s index rest hrecv hne => ⟨fun hge => ?badIndex, fun i hindex => ?names⟩, fun s rest hrecv => ?continues⟩
  case badIndex => exact finish_of_effect hrecv _ (startDrainEffect_badIndex rest hne hge)
  case names =>
    have heffect := startDrainEffect_names (s := s) rest hne hindex
    refine ⟨fun habort => ?_, fun hsettled hunready => ?_, fun hsettled hready => ?_⟩
    · exact finish_of_effect hrecv _ (heffect.trans (State.startDrainAt_busy i habort))
    · exact finish_of_effect hrecv _ (heffect.trans (State.startDrainAt_badState hsettled hunready))
    · exact finish_of_arbitrate hrecv _ (heffect.trans (State.startDrainAt_starts hsettled hready))
  case continues =>
    have heffect := startDrainEffect_continues (s := s) rest
    refine ⟨fun habort => ?_, fun hsettled hmoving => ?_, fun hsettled hstopped hcurrent => ?_,
      fun hsettled hstopped hnone hready => ?_, fun hsettled hstopped hnone hunready => ?_⟩
    · exact finish_of_effect hrecv _ (heffect.trans (State.continueDrain_busy habort))
    · exact finish_of_effect hrecv _ (heffect.trans (State.continueDrain_badState hsettled hmoving))
    · exact finish_of_arbitrate hrecv _ (heffect.trans (State.continueDrain_resumes hsettled hstopped hcurrent))
    · exact finish_of_arbitrate hrecv _
        (heffect.trans (State.continueDrain_activates hsettled hstopped hnone hready))
    · exact finish_of_effect hrecv _ (heffect.trans (State.continueDrain_starves hsettled hstopped hnone hunready))

/-! ### STOP_DRAIN -/

/-- The mark present has origin SNAP. -/
theorem snapMarked_iff (mark : Option FlushMark) :
    mark.any (fun m => m.origin = .snap) = true ↔ ∃ m, mark = some m ∧ m.origin = .snap := by
  cases mark <;> simp

/-- Without a SNAP mark the end of a mark changes the mark alone (R144). -/
theorem State.endMark_plain {s : State} (h : s.drain.mark.any (fun m => m.origin = .snap) = false) :
    s.endMark = { s with drain := { s.drain with mark := none } } := by
  rw [State.endMark_eq_dropMark]
  cases hmark : s.drain.mark with
  | none => rw [State.dropMark_of_none hmark, ← hmark]
  | some m =>
    cases ho : m.origin with
    | flush => exact State.dropMark_flush hmark ho _
    | snap => simp [hmark, ho] at h

/-- The end of a SNAP mark ends the freeze incomplete (R158). -/
theorem State.endMark_snap {s : State} (h : s.drain.mark.any (fun m => m.origin = .snap) = true) :
    s.endMark = { s with
      drain := { s.drain with mark := none }
      monitor := { s.monitor with state := .frozen }
      notices := { s.notices with flags := s.notices.flags ||| 0x080, completeness := .incomplete } } := by
  obtain ⟨m, hmark, ho⟩ := (snapMarked_iff _).mp h
  rw [State.endMark_eq_dropMark, State.dropMark_snap hmark ho]
  rfl

theorem stopDrainEffect_badState {s : State} (ops : List Byte)
    (h : s.drain.state = .stopped ∨ s.drain.state = .ended) : stopDrainEffect ops s = (s, .badState) := by
  rcases h with h | h <;> simp only [stopDrainEffect, h]

/-- The drain is STOPPED, with its link, its pointer and what is in flight as they were (R139). -/
def State.stopped (s : State) : State := { s with drain := { s.drain with state := .stopped } }

theorem stopDrainEffect_stops {s : State} (ops : List Byte)
    (h : s.drain.state = .running ∨ s.drain.state = .starved) :
    stopDrainEffect ops s = (s.stopped.endMark.arbitrate, .ok) := by
  rcases h with h | h <;> simp only [stopDrainEffect, h] <;> rfl

/-- Settles O32: the drain stops, and what `State.endMark` does rests on whether the mark is a SNAP one. -/
theorem stopDrainKeepsTheLink : Obligations.StopDrainKeepsTheLink := by
  refine fun s ops hrecv => ⟨fun hrest => ?_, fun hmoving => ?_⟩
  · exact finish_of_effect hrecv _ (stopDrainEffect_badState ops hrest)
  · have heffect := stopDrainEffect_stops ops hmoving
    refine ⟨fun hplain => ?_, fun hsnap => ?_⟩
    · rw [State.endMark_plain (s := s.stopped) hplain] at heffect
      exact finish_of_arbitrate hrecv _ heffect
    · rw [State.endMark_snap (s := s.stopped) hsnap] at heffect
      exact finish_of_arbitrate hrecv _ heffect

end Sys2Proof.Machine
end

section
/-! The commands of the Drain Engine that mark and close (R140 to R144, R157, R158): what FLUSH and ABORT_DRAIN refuse,
and what they leave of the link, the chain and the freeze. -/

namespace Sys2Proof.Machine

/-! ### FLUSH -/

/-- A mark of origin FLUSH is set that counts the depth (R142). -/
def State.flushMarked (s : State) : State := { s with drain := { s.drain with mark := some ⟨s.depth, .flush⟩ } }

section
variable {s : State} (ops : List Byte)

theorem flushEffect_badState (h : s.drain.state ≠ .running) : flushEffect ops s = (s, .badState) := if_pos h

variable (hrunning : s.drain.state = .running)
include hrunning

theorem flushEffect_busy (h : s.drain.mark.isSome = true) : flushEffect ops s = (s, .busy) := by
  rw [flushEffect, if_neg (not_not.mpr hrunning), if_pos h]

variable (hunmarked : s.drain.mark = none)
include hunmarked

/-- FLUSH taken: whether it completes at once rests on the depth and the pad run (R142, R143). -/
theorem flushEffect_marks : flushEffect ops s =
    if s.depth = 0 ∧ s.drain.padInFlight = none then (s.flushMarked.completeFlush.arbitrate, .ok)
    else (s.flushMarked, .ok) := by
  rw [flushEffect, if_neg (not_not.mpr hrunning), if_neg (by simp [hunmarked])]
  rfl

end

theorem State.flushMarked_completeFlush_frame (s : State) :
    s.flushMarked.completeFlush.queue = s.queue ∧ s.flushMarked.completeFlush.regions = s.regions ∧
      s.flushMarked.completeFlush.shadow = s.shadow ∧ s.flushMarked.completeFlush.path = s.path := by
  simp [State.flushMarked]

/-- A flush over an empty queue ends its mark, and no freeze (R143). -/
theorem State.flushMarked_completeFlush_mark {s : State} {i : Fin 8} (hcurrent : s.drain.current = some i)
    (hdepth : s.depth = 0) :
    s.flushMarked.completeFlush.drain.mark = none ∧ s.flushMarked.completeFlush.monitor = s.monitor := by
  obtain ⟨hnone, _, hmonitor⟩ := State.completeFlush_mark (s := s.flushMarked) hcurrent rfl hdepth
  exact ⟨hnone, hmonitor rfl⟩

/-- The link of a flush over an empty queue that holds no record stays ACTIVE, and nothing else changes (R143). -/
theorem State.flushMarked_completeFlush_empty {s : State} {i : Fin 8} (hcurrent : s.drain.current = some i)
    (hunmarked : s.drain.mark = none) (hfill : (s.link i).fill = 0) : s.flushMarked.completeFlush = s := by
  have hrestored : { s.drain with mark := none } = s.drain := by rw [← hunmarked]
  rw [State.completeFlush_empty (s := s.flushMarked) hcurrent hfill,
    State.dropMark_flush (s := s.flushMarked) (m := ⟨s.depth, .flush⟩) rfl rfl]
  exact congrArg (fun d => { s with drain := d }) hrestored

/-- The link of a flush over an empty queue that holds records closes FLUSH, and the drain advances (R137, R143). -/
theorem State.flushMarked_completeFlush_filled {s : State} {i : Fin 8} (hcurrent : s.drain.current = some i)
    (hdepth : s.depth = 0) (hfill : 0 < (s.link i).fill) :
    State.closedAndAdvanced s s.flushMarked.completeFlush i .flush ∧
      State.markJudged s s.flushMarked.completeFlush i (some ⟨0, .flush⟩) := by
  have hmark : s.flushMarked.drain.mark = some ⟨0, .flush⟩ := by rw [← hdepth]; rfl
  have hdue := s.flushMarked.flushDue_iff.mpr ⟨_, hmark, rfl⟩
  rw [State.completeFlush_filled (s := s.flushMarked) hcurrent hfill hdue, ← hmark]
  exact ⟨State.closedAndAdvanced_of (s.flushMarked.closeAdvance_closedAndAdvanced i .flush) rfl rfl rfl rfl rfl rfl,
    State.markJudged_of (s.flushMarked.closeAdvance_markJudged i .flush) rfl rfl rfl rfl rfl rfl rfl⟩

/-- Settles O33: FLUSH at once is `State.completeFlush` on the marked drain, whose link holds no record or some. -/
theorem flushMarksTheDepth : Obligations.FlushMarksTheDepth := by
  refine fun s ops hrecv => ⟨fun hidle => ?badState, fun hrunning hmarked => ?busy,
    fun hrunning hunmarked hcounting => ?marks, fun hrunning hunmarked hdepth hpad i hcurrent => ?completes⟩
  case badState => exact finish_of_effect hrecv _ (flushEffect_badState ops hidle)
  case busy => exact finish_of_effect hrecv _ (flushEffect_busy ops hrunning hmarked)
  case marks =>
    refine finish_of_effect hrecv _ ((flushEffect_marks ops hrunning hunmarked).trans (if_neg fun hdue => ?_))
    obtain ⟨hdepth, hpad⟩ := hdue
    rcases hcounting with hrecords | hflying
    · exact Nat.ne_of_gt hrecords hdepth
    · rw [hpad] at hflying
      cases hflying
  case completes =>
    have heffect := (flushEffect_marks ops hrunning hunmarked).trans (if_pos ⟨hdepth, hpad⟩)
    obtain ⟨hnone, hmonitor⟩ := State.flushMarked_completeFlush_mark hcurrent hdepth
    obtain ⟨hqueue, hregions, hshadow, hpath⟩ := s.flushMarked_completeFlush_frame
    refine ⟨_, finish_of_effect hrecv _ heffect, ?_⟩
    rw [State.arbitrate_eq]
    refine ⟨hnone, rfl, hqueue, hregions, hshadow, hmonitor, hpath, fun hfill => ?_, fun hfill => ?_⟩
    · rw [State.flushMarked_completeFlush_empty hcurrent hunmarked hfill]
      exact ⟨rfl, rfl⟩
    · exact State.flushMarked_completeFlush_filled hcurrent hdepth hfill

/-! ### ABORT_DRAIN -/

/-- The drain is STOPPED and its mark has ended without completion: what ABORT_DRAIN does first (R140, R144). -/
def State.halted (s : State) : State := s.stopped.endMark

theorem State.halted_drain (s : State) : s.halted.drain = { s.drain with state := .stopped, mark := none } := by
  rw [State.halted, State.endMark_eq_dropMark, State.dropMark_drain]
  rfl

/-- What every abort taken in `s` leaves in `t` (R140, R144, R158): the mark is gone, what is in flight stays, and a SNAP
mark has ended the freeze incomplete. -/
def State.haltedAs (s t : State) : Prop :=
  t.drain.mark = none ∧ t.queue = s.queue ∧ t.regions = s.regions ∧ t.path = s.path ∧
  t.drain.recordInFlight = s.drain.recordInFlight ∧ t.drain.padInFlight = s.drain.padInFlight ∧
  (s.drain.mark.any (fun m => m.origin = .snap) = true →
    t.monitor.state = .frozen ∧ t.notices.completeness = .incomplete ∧ t.noticeSet .snapDone = true) ∧
  (s.drain.mark.any (fun m => m.origin = .snap) = false → t.monitor = s.monitor)

theorem State.halted_haltedAs (s : State) : s.haltedAs s.halted := by
  have hdrain := s.halted_drain
  refine ⟨by rw [hdrain], by simp [State.halted, State.stopped], by simp [State.halted, State.stopped],
    by simp [State.halted, State.stopped], by rw [hdrain], by rw [hdrain], fun hsnap => ?_, fun hplain => ?_⟩
  · obtain ⟨m, hmark, ho⟩ := (snapMarked_iff _).mp hsnap
    obtain ⟨hfrozen, hdone, hincomplete⟩ := State.dropMark_frozenWith (s := s.stopped) hmark ho .incomplete
    exact ⟨congrArg Monitor.state hfrozen, hincomplete, hdone⟩
  · rw [State.halted, State.endMark_plain (s := s.stopped) hplain]
    rfl

section
variable {s : State} (ops : List Byte)

theorem abortDrainEffect_busy (h : s.drain.abortPending = true) : abortDrainEffect ops s = (s, .busy) := if_pos h

variable (hsettled : s.drain.abortPending = false)
include hsettled

theorem abortDrainEffect_badState
    (h : ¬(s.drain.state = .running ∨ s.drain.state = .stopped ∧ s.drain.current.isSome = true)) :
    abortDrainEffect ops s = (s, .badState) := by
  rw [abortDrainEffect, if_neg (Bool.eq_false_iff.mp hsettled), if_neg h]

/-- ABORT_DRAIN taken: whether it is carried out at once rests on what is in flight (R140). -/
theorem abortDrainEffect_taken {i : Fin 8} (hcurrent : s.drain.current = some i)
    (hstate : s.drain.state = .running ∨ s.drain.state = .stopped) :
    abortDrainEffect ops s =
      if s.drain.recordInFlight.isSome ∨ s.drain.padInFlight.isSome then
        (({ s.halted with drain := { s.halted.drain with abortPending := true } } : State).arbitrate, .ok)
      else (((s.halted.closeLink i .abort).settleAbort i).arbitrate, .ok) := by
  have hcurrent' : s.halted.drain.current = some i := by rw [State.halted_drain]; exact hcurrent
  rw [abortDrainEffect, if_neg (Bool.eq_false_iff.mp hsettled),
    if_pos (hstate.imp_right fun hstopped => ⟨hstopped, by simp [hcurrent]⟩),
    ← State.carryOutAbort_of_current hcurrent']
  rfl

end

/-! ### The notices of an abort that is carried out -/

theorem State.closeLink_noticeSet {s : State} {n : Notice} (h : s.noticeSet n = true) (i : Fin 8)
    (reason : CloseReason) : (s.closeLink i reason).noticeSet n = true := by
  unfold State.closeLink
  dsimp only
  split
  · exact State.noticeSet_setNotice (s := { s with drain := _ }) h .linkDone
  · exact h

theorem State.settleAbort_noticeSet {s : State} {n : Notice} (h : s.noticeSet n = true) (i : Fin 8) :
    (s.settleAbort i).noticeSet n = true := by
  unfold State.settleAbort
  dsimp only
  split
  · exact State.endChain_noticeSet h
  · exact h

theorem State.settleAbort_noticeSet_ended {s : State} {i : Fin 8} (h : (s.link i).endOfChain = true) :
    (s.settleAbort i).noticeSet .chainEnded = true := by
  rw [State.settleAbort, if_pos h]
  exact State.setNotice_noticeSet _ .chainEnded

theorem State.settleAbort_sideStates (s : State) (i : Fin 8) :
    (s.settleAbort i).notices.lastNotified = s.notices.lastNotified ∧
      (s.settleAbort i).notices.completeness = s.notices.completeness := by
  unfold State.settleAbort
  dsimp only
  split <;> simp

/-- The notices of link `i` closed under an abort (R138, R140). -/
theorem State.settleAbort_notices (s : State) (i : Fin 8) (reason : CloseReason) :
    let t := (s.closeLink i reason).settleAbort i
    ((s.link i).notify = true → t.noticeSet .linkDone = true ∧ t.notices.lastNotified = some i) ∧
      ((s.link i).endOfChain = true → t.noticeSet .chainEnded = true) := by
  have hclosed := s.closeLink_linkClosed i reason
  have hends : ((s.closeLink i reason).link i).endOfChain = (s.link i).endOfChain := by rw [hclosed.link_self]
  obtain ⟨_, _, _, _, hnotify, _⟩ := hclosed
  obtain ⟨hlast, _⟩ := (s.closeLink i reason).settleAbort_sideStates i
  refine ⟨fun hn => ?_, fun hend => State.settleAbort_noticeSet_ended (hends.trans hend)⟩
  obtain ⟨hdone, hnamed⟩ := hnotify hn
  exact ⟨State.settleAbort_noticeSet hdone i, hlast.trans hnamed⟩

/-- An abort that is carried out leaves the freeze and what is in flight alone (R140). -/
theorem State.haltedAs.settleAbort {s u : State} (h : s.haltedAs u) (i : Fin 8) (reason : CloseReason) :
    s.haltedAs ((u.closeLink i reason).settleAbort i) := by
  obtain ⟨hmark, hqueue, hregions, hpath, hrecord, hpad, hsnap, hplain⟩ := h
  obtain ⟨hrecord', hpad', hmark'⟩ := u.settleAbort_inFlight i reason
  obtain ⟨_, hcompleteness⟩ := (u.closeLink i reason).settleAbort_sideStates i
  rw [State.closeLink_completeness] at hcompleteness
  refine ⟨hmark'.trans hmark, by simpa using hqueue, by simpa using hregions, by simpa using hpath,
    hrecord'.trans hrecord, hpad'.trans hpad, fun hs => ?_, fun hp => by simpa using hplain hp⟩
  obtain ⟨hfrozen, hincomplete, hdone⟩ := hsnap hs
  exact ⟨by simpa using hfrozen, hcompleteness.trans hincomplete,
    State.settleAbort_noticeSet (State.closeLink_noticeSet hdone i reason) i⟩

/-- The link and the chain after an abort that is carried out on the halted drain (R140, R141). -/
theorem State.halted_abortedLink (s : State) (i : Fin 8) :
    let t := (s.halted.closeLink i .abort).settleAbort i
    State.abortedLink s.stopped t i .abort ∧
      ((s.link i).notify = true → t.noticeSet .linkDone = true ∧ t.notices.lastNotified = some i) ∧
      ((s.link i).endOfChain = true → t.noticeSet .chainEnded = true) := by
  have hhalted := s.halted_drain
  have hnotices := s.halted.settleAbort_notices i .abort
  rw [State.link_congr (s := s) (by rw [hhalted]) i] at hnotices
  exact ⟨State.abortedLink_of (s.halted.settleAbort_abortedLink i .abort) (by rw [hhalted]; rfl) (by rw [hhalted]; rfl)
    (by rw [hhalted]; rfl) rfl, hnotices⟩

/-- Settles O34: an abort pends on the halted drain, or closes its link there and settles the chain. -/
theorem abortDrainClosesTheLink : Obligations.AbortDrainClosesTheLink := by
  refine fun s ops hrecv => ⟨fun hpending => ?busy, fun hsettled hunfit => ?badState,
    fun hsettled hstate i hcurrent => ?taken⟩
  case busy => exact finish_of_effect hrecv _ (abortDrainEffect_busy ops hpending)
  case badState => exact finish_of_effect hrecv _ (abortDrainEffect_badState ops hsettled hunfit)
  case taken =>
    have heffect := abortDrainEffect_taken ops hsettled hcurrent hstate
    by_cases hflight : s.drain.recordInFlight.isSome = true ∨ s.drain.padInFlight.isSome = true
    · obtain ⟨hmark, hqueue, hregions, hpath, hrecord, hpad, hsnap, hplain⟩ := s.halted_haltedAs
      refine ⟨_, finish_of_effect hrecv _ (heffect.trans (if_pos hflight)), ?_⟩
      rw [State.arbitrate_eq]
      refine ⟨rfl, hmark, hqueue, hregions, hpath, hrecord, hpad, hsnap, hplain, fun _ => ?_,
        fun hidle => absurd hflight hidle⟩
      rw [State.halted_drain]
      exact ⟨rfl, rfl, hcurrent, rfl, fun _ => rfl⟩
    · obtain ⟨hmark, hqueue, hregions, hpath, hrecord, hpad, hsnap, hplain⟩ :=
        s.halted_haltedAs.settleAbort i .abort
      obtain ⟨⟨hsettled', hnone, hself, hothers, hended, hnext⟩, hnotify, hchain⟩ := s.halted_abortedLink i
      refine ⟨_, finish_of_effect hrecv _ (heffect.trans (if_neg hflight)), ?_⟩
      rw [State.arbitrate_eq]
      refine ⟨rfl, hmark, hqueue, hregions, hpath, hrecord, hpad, hsnap, hplain, fun hbusy => absurd hbusy hflight,
        fun _ => ⟨hsettled', hnone, hself, hothers, hnotify, fun hend => ?_, hnext⟩⟩
      obtain ⟨hstate', hpointer⟩ := hended hend
      exact ⟨hstate', hchain hend, hpointer⟩

end Sys2Proof.Machine
end

section
/-! The monitor states and the lines SNAP and RST# (R154 to R158, R160): RESUME, the levels held as seen, and the SNAP
edge that starts a freeze. -/

namespace Sys2Proof.Machine

/-! ### RESUME and the levels of the lines -/

theorem resumeEffect_badState {s : State} (ops : List Byte) (h : s.monitor.state ≠ .frozen) :
    resumeEffect ops s = (s, .badState) := if_pos h

theorem resumeEffect_snapActive {s : State} (ops : List Byte) (h : s.monitor.state = .frozen)
    (hsnap : s.monitor.snapHigh = true) : resumeEffect ops s = (s, .snapActive) := by
  rw [resumeEffect, if_neg (not_not_intro h), if_pos hsnap]

theorem resumeEffect_ok {s : State} (ops : List Byte) (h : s.monitor.state = .frozen)
    (hsnap : s.monitor.snapHigh = false) :
    resumeEffect ops s = ({ s with monitor := { s.monitor with state := .run } }, .ok) := by
  rw [resumeEffect, if_neg (not_not_intro h), if_neg (by rw [hsnap]; exact nofun)]

/-- The line SNAP is seen high (R155). -/
def State.snapRisen (s : State) : State := { s with monitor := { s.monitor with snapHigh := true } }

/-- A line already high gives no edge (log entry 2). -/
theorem execSnapEdge_of_high {s : State} (h : s.monitor.snapHigh = true) : exec .snapEdge s = .next s :=
  if_pos h

/-- Out of RUN the level alone is taken (R155, R156). -/
theorem execSnapEdge_of_not_run {s : State} (h : s.monitor.snapHigh = false) (hidle : s.monitor.state ≠ .run) :
    exec .snapEdge s = .next s.snapRisen :=
  (if_neg (by rw [h]; exact nofun)).trans (if_neg hidle)

/-- In RUN the edge starts a freeze, and the arbiter decides again (R156). -/
theorem execSnapEdge_of_run {s : State} (h : s.monitor.snapHigh = false) (hrun : s.monitor.state = .run) :
    exec .snapEdge s = .next s.snapRisen.startFreeze.arbitrate :=
  (if_neg (by rw [h]; exact nofun)).trans (if_pos hrun)

/-- Settles O38: RESUME's checks in their order, and the rows of the two lines by the level held. -/
theorem resumeAndLineLevels : Obligations.ResumeAndLineLevels :=
  ⟨fun _ ops hrecv => ⟨fun h => finish_of_effect hrecv _ (resumeEffect_badState ops h),
    fun h hsnap => finish_of_effect hrecv _ (resumeEffect_snapActive ops h hsnap),
    fun h hsnap => finish_of_effect hrecv _ (resumeEffect_ok ops h hsnap)⟩,
    fun _ => rfl, fun _ => rfl, fun _ => execSnapEdge_of_high, fun _ => execSnapEdge_of_not_run⟩

/-! ### The freeze that a SNAP edge starts -/

/-- The SNAP record of an edge taken now (R156). -/
def State.snapReport (s : State) : Report := { kind := .snap, valueA := BitVec.ofNat 16 s.depth, valueB := 0 }

/-- A running drain has the freeze wait for every record held, the SNAP record too where it found room (R156). -/
theorem State.startFreeze_running {s : State} (h : s.drain.state = .running) :
    s.startFreeze = { s.createRecord s.snapReport with
      monitor := { s.monitor with state := .freezing }
      drain := { s.drain with mark := some ⟨(s.createRecord s.snapReport).depth, .snap⟩ } } := by
  refine (if_pos h).trans ?_
  simp [State.snapReport]

/-- Without a running drain the freeze ends at once, incomplete (R158). -/
theorem State.startFreeze_halted {s : State} (h : s.drain.state ≠ .running) :
    s.startFreeze = (s.createRecord s.snapReport).endFreeze .incomplete := if_neg h

/-- A record takes the next sequence number, lost or not (R109). -/
theorem State.createRecord_nextSeq (s : State) (b : Report) :
    (s.createRecord b).queue.nextSeq = s.queue.nextSeq + 1 := by
  rcases Nat.lt_or_ge s.queue.records.length 64 with hroom | hfull
  · rw [State.createRecord_queue_room hroom]
  · rw [State.createRecord_queue_full hfull]

/-- The end of a freeze sets SNAP_DONE and leaves every other flag (R157, R158). -/
theorem State.endFreeze_noticeSet (s : State) (c : Completeness) (n : Notice) :
    (s.endFreeze c).noticeSet n = (s.setNotice .snapDone).noticeSet n := rfl

/-- The start of a freeze does to the queue what its record does, and touches no block but the Event Queue, the drain,
the notices and the monitor, whose levels stay as seen. -/
theorem State.startFreeze_frame (s : State) :
    s.startFreeze.queue = (s.createRecord s.snapReport).queue ∧
    s.startFreeze.monitor.snapHigh = s.monitor.snapHigh ∧
    s.startFreeze.regions = s.regions ∧ s.startFreeze.shadow = s.shadow ∧ s.startFreeze.settle = s.settle ∧
    s.startFreeze.path = s.path ∧ s.startFreeze.port = s.port ∧ s.startFreeze.time = s.time ∧
    s.startFreeze.prime = s.prime := by
  by_cases h : s.drain.state = .running
  · simp [State.startFreeze_running h]
  · simp [State.startFreeze_halted h]

/-- A flag that the SNAP record sets is set once the freeze has started. -/
theorem State.startFreeze_noticeSet {s : State} {n : Notice} (h : (s.createRecord s.snapReport).noticeSet n = true) :
    s.startFreeze.noticeSet n = true := by
  by_cases hdrain : s.drain.state = .running
  · rw [State.startFreeze_running hdrain]
    exact h
  · rw [State.startFreeze_halted hdrain, State.endFreeze_noticeSet]
    exact State.noticeSet_setNotice h .snapDone

/-- Settles O39: the record by whether the queue has room, the monitor and the mark by whether the drain runs. -/
theorem snapEdgeStartsTheFreeze : Obligations.SnapEdgeStartsTheFreeze := by
  intro s hlow hrun
  refine ⟨_, execSnapEdge_of_run hlow hrun, ?_⟩
  rw [State.arbitrate_eq]
  obtain ⟨hqueue, hsnap, hregions, hshadow, hsettle, hpath, hport, htime, hprime⟩ := s.snapRisen.startFreeze_frame
  refine ⟨hsnap, fun hroom => ?room, fun hfull => ?full, ?number, fun hrunning => ?freezing, fun hhalted => ?frozen,
    hregions, hshadow, hsettle, hpath, hport, htime, hprime⟩
  case room =>
    have hentered := hqueue.trans (State.createRecord_queue_room (s := s.snapRisen) hroom _)
    exact congrArg EventQueue.records hentered
  case full =>
    have hlost := hqueue.trans (State.createRecord_queue_full (s := s.snapRisen) hfull _)
    have hloss : (s.snapRisen.createRecord s.snapRisen.snapReport).noticeSet .loss = true := by
      rw [State.noticeSet, State.createRecord_notices_full (s := s.snapRisen) hfull]
      simp [Notice.position]
    have hrecords := congrArg EventQueue.records hlost
    exact ⟨hrecords, State.startFreeze_noticeSet hloss, congrArg EventQueue.lossCount hlost⟩
  case number => exact (congrArg EventQueue.nextSeq hqueue).trans (State.createRecord_nextSeq _ _)
  case freezing =>
    rw [State.startFreeze_running (s := s.snapRisen) hrunning]
    exact ⟨rfl, rfl⟩
  case frozen =>
    rw [State.startFreeze_halted (s := s.snapRisen) hhalted, State.noticeSet]
    exact ⟨rfl, by simp [State.snapRisen], State.setNotice_noticeSet _ _, rfl⟩

end Sys2Proof.Machine
end

section
/-! The reset cause (R161): every command but the resets leaves it, and what each reset makes of it. -/

namespace Sys2Proof.Machine

/-- The two states agree in the reset cause. -/
def State.SameCause (s t : State) : Prop := t.monitor.cause = s.monitor.cause

theorem State.SameCause.refl (s : State) : s.SameCause s := rfl

/-! ### Frames -/

/-- The serial lines and the frame have no part in the reset cause. -/
theorem SerialOnly.sameCause {s t : State} (h : SerialOnly s t) : s.SameCause t := by
  unfold State.SameCause
  rw [h]

/-- A frame keeps the reset cause where the effect of its command does. -/
theorem runFrame_sameCause {spec : FrameSpec} (h : ∀ f u, State.SameCause u (spec.effect f u).1)
    (ops : List Byte) (act : FrameAct) (s : State) : Answers (.next (runFrame spec ops act s)) s.SameCause := by
  refine .next ?_
  rcases runFrame_cases spec ops act s with ⟨p, hp⟩ | ⟨f, p, p', hp⟩
  · rw [hp]
    exact .refl s
  · rw [hp]
    exact h f { s with port := p }

theorem plainFrame_sameCause {code : Byte} {effect : List Byte → State → State × ResultCode}
    (h : ∀ ops u, State.SameCause u (effect ops u).1) (ops : List Byte) (act : FrameAct) (s : State) :
    Answers (.next (runFrame (plainFrame code effect) ops act s)) s.SameCause :=
  runFrame_sameCause (fun f u => h f.ops u) ops act s

/-! ### The effects of the frames -/

theorem readNoticeFrame_sameCause (f : Frame) (s : State) : s.SameCause (readNoticeFrame.effect f s).1 := by
  simp only [readNoticeFrame]
  (repeat' split) <;> simp [State.SameCause]

theorem clearNoticeEffect_sameCause (ops : List Byte) (s : State) : s.SameCause (clearNoticeEffect ops s).1 := by
  unfold clearNoticeEffect
  split <;> simp [State.SameCause]

theorem setNoticeMaskEffect_sameCause (ops : List Byte) (s : State) :
    s.SameCause (setNoticeMaskEffect ops s).1 := by
  unfold setNoticeMaskEffect
  split <;> exact .refl s

theorem setOptionsEffect_sameCause (ops : List Byte) (s : State) : s.SameCause (setOptionsEffect ops s).1 := by
  unfold setOptionsEffect
  (repeat' split) <;> exact .refl s

theorem setTimebaseEffect_sameCause (ops : List Byte) (s : State) : s.SameCause (setTimebaseEffect ops s).1 := by
  unfold setTimebaseEffect
  (repeat' split) <;> exact .refl s

theorem State.regionCommand_sameCause {s : State} (index : Byte) (allowed : Region → Bool)
    {effect : Fin 32 → State} (h : ∀ r, s.SameCause (effect r)) :
    s.SameCause (s.regionCommand index allowed effect).1 := by
  unfold State.regionCommand
  (repeat' split)
  · exact .refl s
  · exact h _
  · exact .refl s

theorem stageRegionEffect_sameCause (ops : List Byte) (s : State) : s.SameCause (stageRegionEffect ops s).1 := by
  unfold stageRegionEffect
  split <;> exact .refl s

theorem commitRegionEffect_sameCause (ops : List Byte) (s : State) :
    s.SameCause (commitRegionEffect ops s).1 := by
  unfold commitRegionEffect
  (repeat' split) <;> exact .refl s

theorem readRegionFrame_sameCause (f : Frame) (s : State) : s.SameCause (readRegionFrame.effect f s).1 := by
  simp only [readRegionFrame]
  split <;> exact .refl s

theorem State.enableRegion_sameCause (s : State) (r : Fin 32) : s.SameCause (s.enableRegion r) := by
  unfold State.enableRegion
  (repeat' split) <;> simp [State.SameCause]

theorem enableRegionEffect_sameCause (ops : List Byte) (s : State) :
    s.SameCause (enableRegionEffect ops s).1 := by
  unfold enableRegionEffect
  split
  · exact .refl s
  · exact State.regionCommand_sameCause _ _ s.enableRegion_sameCause

theorem State.disableRegion_sameCause (s : State) (r : Fin 32) : s.SameCause (s.disableRegion r) := by
  unfold State.disableRegion
  dsimp only
  split <;> simp [State.SameCause]

theorem disableRegionEffect_sameCause (ops : List Byte) (s : State) :
    s.SameCause (disableRegionEffect ops s).1 := by
  unfold disableRegionEffect
  split
  · exact .refl s
  · exact State.regionCommand_sameCause _ _ s.disableRegion_sameCause

theorem releaseRegionEffect_sameCause (ops : List Byte) (s : State) :
    s.SameCause (releaseRegionEffect ops s).1 := by
  unfold releaseRegionEffect
  split
  · exact .refl s
  · exact State.regionCommand_sameCause _ _ fun _ => .refl s

theorem setSenseEffect_sameCause (ops : List Byte) (s : State) : s.SameCause (setSenseEffect ops s).1 := by
  unfold setSenseEffect
  split
  · exact State.regionCommand_sameCause _ _ fun _ => .refl s
  · exact .refl s

theorem clearTripEffect_sameCause (ops : List Byte) (s : State) : s.SameCause (clearTripEffect ops s).1 := by
  unfold clearTripEffect
  split
  · exact .refl s
  · exact State.regionCommand_sameCause _ _ fun _ => .refl s

theorem clearCountsEffect_sameCause (ops : List Byte) (s : State) : s.SameCause (clearCountsEffect ops s).1 := by
  unfold clearCountsEffect
  split
  · exact .refl s
  · exact State.regionCommand_sameCause _ _ fun _ => .refl s

theorem State.setThresholds_sameCause (s : State) (alert trip : Word) (r : Fin 32) :
    s.SameCause (s.setThresholds alert trip r) := by
  unfold State.setThresholds
  dsimp only
  split <;> simp [State.SameCause]

theorem setThresholdsEffect_sameCause (ops : List Byte) (s : State) :
    s.SameCause (setThresholdsEffect ops s).1 := by
  unfold setThresholdsEffect
  (repeat' split)
  · exact .refl s
  · exact .refl s
  · exact s.setThresholds_sameCause _ _ _
  · exact .refl s
  · exact .refl s

theorem loadLinkEffect_sameCause (ops : List Byte) (s : State) : s.SameCause (loadLinkEffect ops s).1 := by
  unfold loadLinkEffect
  dsimp only
  (repeat' split) <;> simp [State.SameCause]

theorem readLinkFrame_sameCause (f : Frame) (s : State) : s.SameCause (readLinkFrame.effect f s).1 := by
  simp only [readLinkFrame]
  split <;> exact .refl s

theorem unloadLinkEffect_sameCause (ops : List Byte) (s : State) : s.SameCause (unloadLinkEffect ops s).1 := by
  unfold unloadLinkEffect
  (repeat' split) <;> exact .refl s

theorem startDrainEffect_sameCause (ops : List Byte) (s : State) : s.SameCause (startDrainEffect ops s).1 := by
  unfold startDrainEffect State.continueDrain State.startDrainAt
  dsimp only
  (repeat' split) <;> simp [State.SameCause]

theorem stopDrainEffect_sameCause (ops : List Byte) (s : State) : s.SameCause (stopDrainEffect ops s).1 := by
  unfold stopDrainEffect
  (repeat' split) <;> simp [State.SameCause]

theorem flushEffect_sameCause (ops : List Byte) (s : State) : s.SameCause (flushEffect ops s).1 := by
  unfold flushEffect
  dsimp only
  (repeat' split) <;> simp [State.SameCause]

theorem abortDrainEffect_sameCause (ops : List Byte) (s : State) : s.SameCause (abortDrainEffect ops s).1 := by
  unfold abortDrainEffect
  dsimp only
  (repeat' split) <;> simp [State.SameCause]

theorem popEventFrame_sameCause (f : Frame) (s : State) : s.SameCause (popEventFrame.effect f s).1 := by
  simp only [popEventFrame]
  (repeat' split) <;> simp [State.SameCause]

theorem discardQueueEffect_sameCause (ops : List Byte) (s : State) :
    s.SameCause (discardQueueEffect ops s).1 := by
  unfold discardQueueEffect
  split <;> simp [State.SameCause]

theorem armEffect_sameCause (ops : List Byte) (s : State) : s.SameCause (armEffect ops s).1 := by
  unfold armEffect
  (repeat' split) <;> simp [State.SameCause, State.armMonitor]

theorem disarmEffect_sameCause (ops : List Byte) (s : State) : s.SameCause (disarmEffect ops s).1 := by
  unfold disarmEffect
  split <;> simp [State.SameCause, State.disarmMonitor]

theorem resumeEffect_sameCause (ops : List Byte) (s : State) : s.SameCause (resumeEffect ops s).1 := by
  unfold resumeEffect
  (repeat' split) <;> exact .refl s

theorem setShadowPointerEffect_sameCause (ops : List Byte) (s : State) :
    s.SameCause (setShadowPointerEffect ops s).1 := by
  unfold setShadowPointerEffect
  (repeat' split) <;> exact .refl s

theorem readShadowFrame_sameCause (f : Frame) (s : State) : s.SameCause (readShadowFrame.effect f s).1 := by
  simp only [readShadowFrame]
  (repeat' split) <;> exact .refl s

theorem execBadCommand_sameCause (command : Option Byte) (act : FrameAct) (s : State) :
    Answers (execBadCommand command act s) s.SameCause := by
  unfold execBadCommand
  split
  · exact .next (.refl s)
  · exact runFrame_sameCause (fun _ u => .refl u) _ act s

/-! ### The master bus and the Prime Engine -/

theorem execMasterCycleArrives_sameCause (moe mwe : Bool) (addr : Addr) (enables : BitVec 2) (data : Word)
    (parity : BitVec 2) (s : State) :
    Answers (execMasterCycleArrives moe mwe addr enables data parity s) s.SameCause := by
  unfold execMasterCycleArrives
  split <;> exact .next (by simp [State.SameCause])

theorem execWriteGrant_sameCause (s : State) : Answers (execWriteGrant s) s.SameCause := by
  unfold execWriteGrant
  dsimp only
  (repeat' split) <;> exact .next (by simp [State.SameCause, State.forward])

theorem execReadGrant_sameCause (s : State) : Answers (execReadGrant s) s.SameCause := by
  unfold execReadGrant
  (repeat' split) <;> exact .next (.refl s)

theorem execPrimeGrant_sameCause (s : State) : Answers (execPrimeGrant s) s.SameCause := by
  unfold execPrimeGrant
  (repeat' split) <;> exact .next (by simp [State.SameCause, State.issuePrime])

theorem execWriteCompletion_sameCause (s : State) : Answers (execWriteCompletion s) s.SameCause := by
  unfold execWriteCompletion
  (repeat' split) <;> exact .next (by simp [State.SameCause])

theorem execReadCompletion_sameCause (data : Word) (parity : BitVec 2) (s : State) :
    Answers (execReadCompletion data parity s) s.SameCause := by
  unfold execReadCompletion
  (repeat' split) <;> exact .next (by simp [State.SameCause])

theorem execPrimeReadCompletion_sameCause (data : Word) (parity : BitVec 2) (s : State) :
    Answers (execPrimeReadCompletion data parity s) s.SameCause := by
  unfold execPrimeReadCompletion
  (repeat' split) <;> exact .next (by simp [State.SameCause])

/-! ### The drain, the lines and the Timebase -/

theorem execDrainGrant_sameCause (s : State) : Answers (execDrainGrant s) s.SameCause := by
  unfold execDrainGrant
  split <;> exact .next (by simp [State.SameCause])

theorem execDrainWriteCompletion_sameCause (s : State) : Answers (execDrainWriteCompletion s) s.SameCause := by
  unfold execDrainWriteCompletion
  (repeat' split) <;> exact .next (by simp [State.SameCause])

theorem execRecordWriteCompletion_sameCause (s : State) : Answers (execRecordWriteCompletion s) s.SameCause := by
  unfold execRecordWriteCompletion
  (repeat' split) <;> exact .next (by simp [State.SameCause])

theorem execPadWriteCompletion_sameCause (s : State) : Answers (execPadWriteCompletion s) s.SameCause := by
  unfold execPadWriteCompletion
  (repeat' split) <;> exact .next (by simp [State.SameCause])

theorem execBurstEnd_sameCause (s : State) : Answers (execBurstEnd s) s.SameCause := by
  unfold execBurstEnd
  split <;> exact .next (by simp [State.SameCause])

theorem execFlushComplete_sameCause (s : State) : Answers (execFlushComplete s) s.SameCause := by
  unfold execFlushComplete
  split <;> exact .next (by simp [State.SameCause])

theorem execAbortCarriedOut_sameCause (s : State) : Answers (execAbortCarriedOut s) s.SameCause := by
  unfold execAbortCarriedOut
  split <;> exact .next (by simp [State.SameCause])

theorem execSnapEdge_sameCause (s : State) : Answers (execSnapEdge s) s.SameCause := by
  unfold execSnapEdge State.startFreeze
  dsimp only
  (repeat' split) <;> exact .next (by simp [State.SameCause])

theorem execDecayTick_sameCause (s : State) : Answers (execDecayTick s) s.SameCause := by
  unfold execDecayTick
  split <;> exact .next (by simp [State.SameCause])

theorem execSettleExpiry_sameCause (s : State) : Answers (execSettleExpiry s) s.SameCause := by
  unfold execSettleExpiry
  split <;> exact .next (by simp [State.SameCause])

theorem execTclkPeriod_sameCause (s : State) : Answers (execTclkPeriod s) s.SameCause := by
  unfold execTclkPeriod
  split <;> exact .next (by simp [State.SameCause])

/-! ### Resets -/

theorem State.fullReset_cause (s : State) (cause : ResetCause) : (s.fullReset cause).monitor.cause = cause := by
  rw [State.fullReset_monitor]

theorem State.partialReset_cause (s : State) : s.partialReset.monitor.cause = .linePartial := by
  simp [State.partialReset]

theorem execPowerOnReset_cause (snapHigh rstHigh : Bool) (s : State) :
    Answers (execPowerOnReset snapHigh rstHigh s) fun t => t.monitor.cause = .power :=
  .next (s.fullReset_cause .power)

theorem execFullReset_cause (s : State) : Answers (execFullReset s) fun t => t.monitor.cause =
    if s.monitor.rstHigh ∧ s.port.rstPartial = false then .lineFull else s.monitor.cause := by
  unfold execFullReset
  split
  · exact .next (s.fullReset_cause .lineFull)
  · exact .next rfl

theorem execPartialReset_cause (s : State) : Answers (execPartialReset s) fun t => t.monitor.cause =
    if s.monitor.rstHigh ∧ s.port.rstPartial = true then .linePartial else s.monitor.cause := by
  unfold execPartialReset
  split
  · exact .next s.partialReset_cause
  · exact .next rfl

/-! ### The RESET frame -/

/-- A byte exchanged between two bytes of a frame with its command byte received leaves the port between two bytes of
that frame. -/
theorem exchangeByte_command {spec : FrameSpec} {code : Byte} (hc : spec.command = some code) (ops : List Byte)
    {s : State} (hb : s.betweenBytes) {f : Frame} (hf : s.port.frame = some f) (hcode : f.command = some code) :
    (exchangeByte spec ops s).betweenBytes ∧
      ∃ g, (exchangeByte spec ops s).port.frame = some g ∧ g.command = some code := by
  have hfits : spec.fits s.port = true := by simp [FrameSpec.fits, hf, hcode, hc]
  have hcompletes : spec.completes s.port = true := by simp [FrameSpec.completes, hc]
  obtain ⟨hcommand, _⟩ := nextByte_keeps spec (endByte spec ops s) (receiveByte spec ops s f)
  rw [exchangeByte_eq ops hb hfits hcompletes]
  refine ⟨by simpa [State.betweenBytes, beginByte, endByte, hf] using hb,
    (nextByte spec (endByte spec ops s) (receiveByte spec ops s f)).2, by simp [beginByte, endByte, hf],
    hcommand.trans (receiveByte_command hc ops s (.inr hcode))⟩

/-- A frame of which a byte or more has been exchanged has its command byte. -/
theorem exchangeBytes_command {spec : FrameSpec} {code : Byte} (hc : spec.command = some code) (ops : List Byte)
    (n : Nat) (s : State) :
    (exchangeBytes spec ops (n + 1) (openFrame s)).betweenBytes ∧
      ∃ f, (exchangeBytes spec ops (n + 1) (openFrame s)).port.frame = some f ∧ f.command = some code := by
  induction n with
  | zero =>
    rw [exchangeBytes_one hc ops []]
    exact ⟨⟨rfl, rfl, rfl⟩, _, rfl, receiveByte_command hc ops _ (.inl rfl)⟩
  | succ n ih =>
    obtain ⟨hb, f, hf, hcode⟩ := ih
    rw [exchangeBytes_succ]
    exact exchangeByte_command hc ops hb hf hcode

/-- The fall of CFG_CS# under the row of RESET takes no reset. -/
theorem execReset_start_sameCause (s : State) : Answers (execReset .start s) s.SameCause := by
  refine .next ?_
  simp only [runFrame]
  split
  · exact .refl s
  · exact (openFrame_serialOnly s).sameCause

/-- The rise of a RESET frame with its command byte is the reset; any other rise under its row is none (R160, R173). -/
theorem execReset_finish_cause (s : State) : Answers (execReset .finish s) fun t => t.monitor.cause =
    if s.port.frame.bind Frame.command = some 0x4F then .command else s.monitor.cause := by
  refine .next ?_
  simp only [runFrame]
  cases hf : s.port.frame with
  | none => rw [closeFrame_of_none hf, if_neg nofun]
  | some f =>
    simp only [Option.bind_some]
    by_cases hreset : f.command = some 0x4F
    · rw [closeFrame_of_frame hf hreset rfl, if_pos hreset]
      exact s.fullReset_cause .command
    · rw [if_neg hreset]
      cases hcode : f.command with
      | none => rw [closeFrame_of_incomplete hf hcode]; rfl
      | some code =>
        have hother : (plainFrame 0x4F resetEffect).command ≠ some code := fun h => hreset (hcode.trans h.symm)
        rw [closeFrame_of_other hf hcode hother]

/-- A whole RESET frame is the reset, unless CFG_CS# is already low (log entry 2). -/
theorem execReset_whole_cause (extra : Nat) (s : State) : Answers (execReset (.whole extra) s) fun t =>
    t.monitor.cause = if s.port.selected then s.monitor.cause else .command := by
  refine .next ?_
  simp only [runFrame]
  split
  · rfl
  · have hcount : (plainFrame 0x4F resetEffect).listed [] + extra = extra + 1 := Nat.add_comm 1 extra
    obtain ⟨_, f, hf, hcode⟩ := exchangeBytes_command (spec := plainFrame 0x4F resetEffect) rfl [] extra s
    rw [hcount, closeFrame_of_frame hf hcode rfl]
    exact State.fullReset_cause _ .command

/-! ### Every command -/

/-- The commands that can take a reset: the rows of the lines, and the RESET frame whole or at its rise (R160). -/
def takesReset : Instr → Bool
  | .powerOnReset _ _ | .reset (.whole _) | .reset .finish | .fullReset | .partialReset => true
  | _ => false

theorem exec_sameCause (c : Instr) (s : State) (h : takesReset c = false) :
    Answers (exec c s) s.SameCause := by
  cases c with
  | fullReset | partialReset | powerOnReset => cases h
  | reset act =>
    cases act with
    | whole | finish => cases h
    | start => exact execReset_start_sameCause s
    | clockRises => exact .next (riseClock_serialOnly _ _ s).sameCause
    | clockFalls => exact .next (fallClock_serialOnly _ s).sameCause
    | byte => exact .next (exchangeByte_serialOnly _ _ s).sameCause
  | readStatus act => exact runFrame_sameCause (fun _ u => .refl u) [] act s
  | readNotice act => exact runFrame_sameCause readNoticeFrame_sameCause [] act s
  | clearNotice ops act => exact plainFrame_sameCause clearNoticeEffect_sameCause ops act s
  | setNoticeMask ops act => exact plainFrame_sameCause setNoticeMaskEffect_sameCause ops act s
  | stageRegion ops act => exact plainFrame_sameCause stageRegionEffect_sameCause ops act s
  | commitRegion ops act => exact plainFrame_sameCause commitRegionEffect_sameCause ops act s
  | readRegion ops act => exact runFrame_sameCause readRegionFrame_sameCause ops act s
  | enableRegion ops act => exact plainFrame_sameCause enableRegionEffect_sameCause ops act s
  | disableRegion ops act => exact plainFrame_sameCause disableRegionEffect_sameCause ops act s
  | releaseRegion ops act => exact plainFrame_sameCause releaseRegionEffect_sameCause ops act s
  | setSense ops act => exact plainFrame_sameCause setSenseEffect_sameCause ops act s
  | clearTrip ops act => exact plainFrame_sameCause clearTripEffect_sameCause ops act s
  | clearCounts ops act => exact plainFrame_sameCause clearCountsEffect_sameCause ops act s
  | setThresholds ops act => exact plainFrame_sameCause setThresholdsEffect_sameCause ops act s
  | loadLink ops act => exact plainFrame_sameCause loadLinkEffect_sameCause ops act s
  | readLink ops act => exact runFrame_sameCause readLinkFrame_sameCause ops act s
  | startDrain ops act => exact plainFrame_sameCause startDrainEffect_sameCause ops act s
  | startDrainContinue act => exact plainFrame_sameCause startDrainEffect_sameCause [0xFF] act s
  | stopDrain act => exact plainFrame_sameCause stopDrainEffect_sameCause [] act s
  | flush act => exact plainFrame_sameCause flushEffect_sameCause [] act s
  | abortDrain act => exact plainFrame_sameCause abortDrainEffect_sameCause [] act s
  | popEvent act => exact runFrame_sameCause popEventFrame_sameCause [] act s
  | discardQueue act => exact plainFrame_sameCause discardQueueEffect_sameCause [] act s
  | unloadLink ops act => exact plainFrame_sameCause unloadLinkEffect_sameCause ops act s
  | arm act => exact plainFrame_sameCause armEffect_sameCause [] act s
  | disarm act => exact plainFrame_sameCause disarmEffect_sameCause [] act s
  | resume act => exact plainFrame_sameCause resumeEffect_sameCause [] act s
  | setTimebase ops act => exact plainFrame_sameCause setTimebaseEffect_sameCause ops act s
  | setOptions ops act => exact plainFrame_sameCause setOptionsEffect_sameCause ops act s
  | setShadowPointer ops act => exact plainFrame_sameCause setShadowPointerEffect_sameCause ops act s
  | readShadow ops act => exact runFrame_sameCause readShadowFrame_sameCause ops act s
  | badCommand command act => exact execBadCommand_sameCause command act s
  | masterCycleArrives moe mwe addr enables data parity =>
    exact execMasterCycleArrives_sameCause moe mwe addr enables data parity s
  | masterCycleWithdrawn | masterCycleEnds => exact .next (by simp [State.SameCause])
  | writeGrant => exact execWriteGrant_sameCause s
  | readGrant => exact execReadGrant_sameCause s
  | primeGrant => exact execPrimeGrant_sameCause s
  | drainGrant => exact execDrainGrant_sameCause s
  | writeCompletion => exact execWriteCompletion_sameCause s
  | readCompletion data parity => exact execReadCompletion_sameCause data parity s
  | primeReadCompletion data parity => exact execPrimeReadCompletion_sameCause data parity s
  | drainWriteCompletion => exact execDrainWriteCompletion_sameCause s
  | recordWriteCompletion => exact execRecordWriteCompletion_sameCause s
  | padWriteCompletion => exact execPadWriteCompletion_sameCause s
  | burstEnd => exact execBurstEnd_sameCause s
  | snapEdge => exact execSnapEdge_sameCause s
  | snapLineFalls | rstLineRises => exact .next (.refl s)
  | baseTick | lossPlacement => exact .next (by simp [State.SameCause])
  | decayTick => exact execDecayTick_sameCause s
  | settleExpiry => exact execSettleExpiry_sameCause s
  | flushComplete => exact execFlushComplete_sameCause s
  | abortCarriedOut => exact execAbortCarriedOut_sameCause s
  | tclkPeriod => exact execTclkPeriod_sameCause s

/-- READ_STATUS has the cause as its fourth byte, after the identification and the revision (Table 10-4). -/
theorem State.statusBytes_cause (s : State) : s.statusBytes[3]? = some s.monitor.cause.code := rfl

/-- Settles O7: `exec_sameCause` for every command but the resets, and each reset by its own lemma. -/
theorem resetCauseChangesByResetsAlone : Obligations.ResetCauseChangesByResetsAlone := by
  refine ⟨fun c s t h => ?changed, fun s => ?reported⟩
  case changed =>
    cases hreset : takesReset c with
    | false =>
      have hkept : t.monitor.cause = s.monitor.cause := (exec_sameCause c s hreset).of_next h
      split
      case h_6 => exact hkept
      all_goals cases hreset
    | true =>
      unfold takesReset at hreset
      split at hreset
      · exact (execPowerOnReset_cause _ _ s).of_next h
      · exact (execReset_whole_cause _ s).of_next h
      · exact (execReset_finish_cause s).of_next h
      · exact (execFullReset_cause s).of_next h
      · exact (execPartialReset_cause s).of_next h
      · cases hreset
  case reported =>
    rw [State.statusBytes_cause]
    cases s.monitor.cause <;> rfl

end Sys2Proof.Machine
end

section
/-! SET_TIMEBASE (R168): what its effect refuses, in the order of the checks, and what it installs. -/

namespace Sys2Proof.Machine

/-- An operand has the value 0 just when all its bits are 0: the reading of `zeroMeans` on bit vectors. -/
theorem zeroMeans_toNat {w : Nat} (whole : Nat) (x : BitVec w) :
    zeroMeans whole x.toNat = if x = 0 then whole else x.toNat := by
  simp [zeroMeans, BitVec.toNat_eq]

/-- The Timebase after SET_TIMEBASE: the operands installed, the prescale count and the countdown restarted, the time
stamp kept (R168). -/
def Timebase.restarted (x : Timebase) (prescale : Word) (divider step : Byte) : Timebase where
  divisor := if prescale = 0 then 65536 else prescale.toNat
  count := 0
  stamp := x.stamp
  decayDivider := if divider = 0 then 256 else divider.toNat
  countdown := if divider = 0 then 256 else divider.toNat
  decayStep := step

section
variable {s : State} (p1 p0 divider : Byte) {step : Byte} (rest : List Byte)

theorem setTimebaseEffect_badState (h : s.monitor.state ≠ .standby) :
    setTimebaseEffect (p1 :: p0 :: divider :: step :: rest) s = (s, .badState) := if_pos h

variable (h : s.monitor.state = .standby)
include h

theorem setTimebaseEffect_badRange (hstep : step = 0) :
    setTimebaseEffect (p1 :: p0 :: divider :: step :: rest) s = (s, .badRange) :=
  (if_neg (not_not_intro h)).trans (if_pos hstep)

theorem setTimebaseEffect_restarts (hstep : step ≠ 0) :
    setTimebaseEffect (p1 :: p0 :: divider :: step :: rest) s =
      ({ s with time := s.time.restarted (wordOf p1 p0) divider step }, .ok) := by
  simp only [setTimebaseEffect, if_neg (not_not_intro h), if_neg hstep, zeroMeans_toNat, Timebase.restarted]

end

/-- Settles O17: SET_TIMEBASE's checks in their order, then the restarted Timebase. -/
theorem setTimebaseRestartsCounts : Obligations.SetTimebaseRestartsCounts := by
  refine fun s p1 p0 divider step rest hrecv => ⟨fun hrunning => ?badState, fun hstandby hzero => ?badRange,
    fun hstandby hstep => ?restarts⟩
  case badState => exact finish_of_effect hrecv _ (setTimebaseEffect_badState p1 p0 divider rest hrunning)
  case badRange => exact finish_of_effect hrecv _ (setTimebaseEffect_badRange p1 p0 divider rest hstandby hzero)
  case restarts => exact finish_of_effect hrecv _ (setTimebaseEffect_restarts p1 p0 divider rest hstandby hstep)

end Sys2Proof.Machine
end

section
/-! The notice mask and ATN, READ_NOTICE and SET_OPTIONS (R179, R181, R183, R184): what is held, what is reported, and
what a frame installs. -/

namespace Sys2Proof.Machine

/-! ### SET_OPTIONS -/

section
variable {s : State} (flags : Byte) {burst high : Byte} (rest : List Byte)

theorem setOptionsEffect_badState (h : s.monitor.state ≠ .standby) :
    setOptionsEffect (flags :: burst :: high :: rest) s = (s, .badState) := if_pos h

variable (h : s.monitor.state = .standby)
include h

theorem setOptionsEffect_badRange
    (hrange : ¬(1 ≤ burst.toNat ∧ burst.toNat ≤ 16 ∧ 1 ≤ high.toNat ∧ high.toNat ≤ 64)) :
    setOptionsEffect (flags :: burst :: high :: rest) s = (s, .badRange) :=
  (if_neg (not_not_intro h)).trans (if_pos (by omega))

theorem setOptionsEffect_installs
    (hrange : 1 ≤ burst.toNat ∧ burst.toNat ≤ 16 ∧ 1 ≤ high.toNat ∧ high.toNat ≤ 64) :
    setOptionsEffect (flags :: burst :: high :: rest) s = ({ s with
      port := { s.port with
        parityCheck := flags.getLsbD 0
        autoclear := flags.getLsbD 1
        rstPartial := flags.getLsbD 2
        burstLimit := burst.toNat }
      queue := { s.queue with highMark := high.toNat } }, .ok) :=
  (if_neg (not_not_intro h)).trans (if_neg (by omega))

end

/-- Settles O16: SET_OPTIONS' checks in their order, then the five options. -/
theorem setOptionsInstallsAllFive : Obligations.SetOptionsInstallsAllFive := by
  refine fun s flags burst high rest hrecv => ⟨fun hrunning => ?badState, fun hstandby hrange => ?badRange,
    fun hstandby hrange => ?installs⟩
  case badState => exact finish_of_effect hrecv _ (setOptionsEffect_badState flags rest hrunning)
  case badRange => exact finish_of_effect hrecv _ (setOptionsEffect_badRange flags rest hstandby hrange)
  case installs => exact finish_of_effect hrecv _ (setOptionsEffect_installs flags rest hstandby hrange)

/-! ### The notice mask and ATN -/

/-- Every bit of the flag word is a notice's (Table 10-8). -/
theorem Notice.exists_position {i : Nat} (h : i < 11) : ∃ n : Notice, n.position = i := by
  have hall : ∀ k : Fin 11, ∃ n ∈ [Notice.linkDone, .chainEnded, .starved, .queueHigh, .loss, .alert, .trip,
      .snapDone, .primed, .parity, .clash], n.position = k.val := by decide
  obtain ⟨n, -, hn⟩ := hall ⟨i, h⟩
  exact ⟨n, hn⟩

/-- ATN is high just when a set flag's mask bit is set (R184). -/
theorem State.atn_iff (s : State) :
    s.atn = true ↔ ∃ n : Notice, s.noticeSet n = true ∧ s.notices.mask.getLsbD n.position = true := by
  have hzero : s.atn = true ↔ s.notices.flags &&& s.notices.mask ≠ 0 := bne_iff_ne
  rw [hzero]
  constructor
  · intro hne
    by_contra hnone
    refine hne (BitVec.eq_of_getLsbD_eq fun i hi => ?_)
    obtain ⟨n, rfl⟩ := Notice.exists_position hi
    rw [BitVec.getLsbD_and, BitVec.ofNat_eq_ofNat, BitVec.getLsbD_zero, Bool.eq_false_iff, ne_eq, Bool.and_eq_true]
    exact fun hset => hnone ⟨n, hset⟩
  · rintro ⟨n, hflag, hmask⟩ hword
    have hbit : (s.notices.flags &&& s.notices.mask).getLsbD n.position = true := by
      rw [BitVec.getLsbD_and, hmask, Bool.and_true]
      exact hflag
    simp [hword] at hbit

/-- ATN stands in bit 7 of the status byte: the other fields stay below it (Table 10-1). -/
theorem State.statusByte_atn (s : State) : s.statusByte.getLsbD 7 = s.atn := by
  have hmonitor : (s.monitor.state.code <<< 5).getLsbD 7 = false := by cases s.monitor.state <;> rfl
  have hdrain : (s.drain.state.code <<< 3).getLsbD 7 = false := by cases s.drain.state <;> rfl
  have hat : ∀ b, (bitAt b 7).getLsbD 7 = b := by decide
  have hlow : ∀ b, (bitAt b 0).getLsbD 7 = false ∧ (bitAt b 1).getLsbD 7 = false ∧ (bitAt b 2).getLsbD 7 = false := by
    decide
  simp only [State.statusByte, BitVec.getLsbD_or, hmonitor, hdrain, hat, hlow, Bool.or_false]

/-- With no flag set ATN is low. -/
theorem State.atn_of_no_flag {s : State} (h : s.notices.flags = 0) : s.atn = false := by
  simp [State.atn, h]

theorem State.fullReset_notices (s : State) (cause : ResetCause) :
    (s.fullReset cause).notices = { flags := 0, mask := 0, lastNotified := none, completeness := .none } := by
  simp [State.fullReset]

theorem State.partialReset_notices (s : State) : s.partialReset.notices =
    { flags := 0, mask := s.notices.mask, lastNotified := none, completeness := .none } := by
  simp [State.partialReset]

/-- Setting a flag leaves the others. -/
theorem State.setNotice_noticeSet_eq (s : State) (n k : Notice) :
    (s.setNotice n).noticeSet k = (s.noticeSet k || decide (n = k)) := by
  by_cases h : n = k
  · subst h
    simp
  · rw [State.setNotice_noticeSet_other s h, decide_eq_false h, Bool.or_false]

/-- Settles O13: ATN by the bits of flags and mask, and the notices each reset leaves. -/
theorem noticeMaskAndAtn : Obligations.NoticeMaskAndAtn := by
  refine ⟨fun s hi lo rest hrecv => ?mask, fun s mask bits n k => ⟨?set, ?cleared, rfl⟩,
    fun s => ⟨s.atn_iff, s.statusByte_atn⟩, fun s cause => ⟨?fullMask, ?fullAtn, ?partialMask, ?partialAtn⟩⟩
  case mask => exact finish_of_effect (effect := setNoticeMaskEffect) hrecv _ rfl
  case set =>
    rw [State.setNotice_noticeSet_eq, State.setNotice_noticeSet_eq]
    rfl
  case cleared =>
    rw [State.clearNotices_noticeSet, State.clearNotices_noticeSet]
    rfl
  case fullMask => rw [State.fullReset_notices]
  case fullAtn => exact State.atn_of_no_flag (by rw [State.fullReset_notices])
  case partialMask => rw [State.partialReset_notices]
  case partialAtn => exact State.atn_of_no_flag (by rw [State.partialReset_notices])

/-! ### READ_NOTICE -/

/-- What READ_NOTICE fixes when its command byte is received (R181). -/
def State.noticeLatch (s : State) : Latch :=
  .notices s.notices.flags s.notices.lastNotified s.notices.completeness

/-- The four bytes READ_NOTICE answers when it fixes its answer in this state (Table 10-7). -/
def State.noticeReply (s : State) : List Byte :=
  noticeData s.notices.flags s.notices.lastNotified s.notices.completeness

theorem SerialOnly.noticeLatch {s u : State} (h : SerialOnly s u) : u.noticeLatch = s.noticeLatch := by
  rw [h]
  rfl

/-- READ_NOTICE takes its data once, from what it has fixed. -/
theorem readNoticeFrame_unit {s : State} {f : Frame} (h : f.latch = s.noticeLatch) (u : State) :
    readNoticeFrame.unit f u = if f.units = 0 then some s.noticeReply else none := by
  simp only [readNoticeFrame, h, State.noticeLatch, State.noticeReply]

/-- At the rise the flags fixed are cleared where autoclear is on (R181). -/
theorem readNoticeFrame_effect {f : Frame} {latched : BitVec 11} {last : Option (Fin 8)} {c : Completeness}
    (h : f.latch = .notices latched last c) (u : State) :
    readNoticeFrame.effect f u = (if u.port.autoclear then u.clearNotices latched else u, .ok) := by
  simp only [readNoticeFrame, h]

/-- The command byte fixes the answer (R181). -/
theorem receiveByte_readNotice {f : Frame} (h : f.command = none) (ops : List Byte) (s : State) :
    receiveByte readNoticeFrame ops s f = { f with command := some 0x02, latch := s.noticeLatch } := by
  simp [receiveByte, h, readNoticeFrame, State.noticeLatch]

/-- The frame has fixed the answer of `s` and still has `rest` to send. -/
def Frame.stillNotifies (s : State) (f : Frame) (rest : List Byte) : Prop :=
  f.latch = s.noticeLatch ∧ f.stillOwes 0 [s.noticeReply] rest

/-- The command byte and one byte more have been received: the answer is fixed and all to send. -/
theorem receiveByte_notifies {s u : State} (hu : SerialOnly s u) (v : State) :
    (receiveByte readNoticeFrame [] v (receiveByte readNoticeFrame [] u Frame.fresh)).stillNotifies s
      s.noticeReply := by
  rw [receiveByte_readNotice (f := Frame.fresh) rfl, hu.noticeLatch]
  refine ⟨rfl, rfl, ?_⟩
  simp [receiveByte, Frame.fresh]

/-- A later byte changes neither what is fixed nor what is left to send. -/
theorem receiveByte_stillNotifies {s : State} {f : Frame} {rest : List Byte} (u : State)
    (hc : f.command = some 0x02) (hf : f.stillNotifies s rest) :
    (receiveByte readNoticeFrame [] u f).stillNotifies s rest := by
  obtain ⟨hlatch, howes⟩ := hf
  have hlength : (f.ops ++ [([] : List Byte).getD f.ops.length 0]).length ≠ readNoticeFrame.operands := by
    simp [readNoticeFrame]
  refine ⟨?_, receiveByte_stillOwes readNoticeFrame [] u hc howes⟩
  simpa only [receiveByte, hc, if_neg hlength] using hlatch

/-- The next byte is the next of the answer, or 0x00 when none is left. -/
theorem nextByte_stillNotifies {s : State} {f : Frame} {rest : List Byte} (u : State) (ho : f.ops ≠ [])
    (hf : f.stillNotifies s rest) :
    (nextByte readNoticeFrame u f).1 = rest.headD 0 ∧
      (nextByte readNoticeFrame u f).2.stillNotifies s rest.tail := by
  obtain ⟨hlatch, hhead, rfl⟩ := hf
  obtain ⟨-, -, hkept⟩ := nextByte_keeps readNoticeFrame u f
  have hunit := readNoticeFrame_unit hlatch u
  rw [Frame.stillNotifies, hkept, hlatch]
  cases hdata : f.data with
  | cons b more => simp [nextByte_of_data readNoticeFrame u ho hdata, Frame.stillOwes, hhead]
  | nil =>
    cases hunits : f.units with
    | zero =>
      rw [hunits, if_pos rfl] at hunit
      simp [nextByte_of_unit ho hdata hunit, Frame.stillOwes, hhead, hunits, State.noticeReply, noticeData, wordBytes]
    | succ k =>
      rw [hunits, if_neg k.succ_ne_zero] at hunit
      simp [nextByte_of_none ho hdata hunit, Frame.stillOwes, hhead, hdata, hunits]

/-- After the bytes of a whole frame of READ_NOTICE: the answer is sent, then 0x00, and the frame holds what was
fixed. -/
theorem exchangeBytes_readNotice (s : State) (extra : Nat) :
    ∃ f, exchangeBytes readNoticeFrame [] (1 + extra) (openFrame s) = s.amid s.noticeReply (1 + extra) f ∧
      f.command = some 0x02 ∧ f.latch = s.noticeLatch := by
  cases extra with
  | zero => exact ⟨_, exchangeBytes_one rfl [] _ s, rfl, rfl⟩
  | succ n =>
    obtain ⟨f, hf, hc, _, hlatch, _⟩ := exchangeBytes_data (spec := readNoticeFrame) rfl [] s.noticeReply s
      (Frame.stillNotifies s) (fun u v hu _ => receiveByte_notifies hu v)
      (fun f rest u _ hc _ hs => receiveByte_stillNotifies u hc hs)
      (fun f rest u _ _ ho hs => nextByte_stillNotifies u ho hs) n
    rw [show 1 + (n + 1) = n + 2 by omega]
    exact ⟨f, hf, hc, hlatch⟩

/-- The whole frame of READ_NOTICE: the answer goes out, and with autoclear on the flags returned are cleared. -/
theorem readNotice_whole {s : State} (hidle : s.port.selected = false) (extra : Nat) :
    exec (.readNotice (.whole extra)) s = .next { (if s.port.autoclear then s.clearNotices s.notices.flags else s) with
      port := s.exchanged s.noticeReply (1 + extra) .ok } := by
  obtain ⟨f, hf, hc, hlatch⟩ := exchangeBytes_readNotice s extra
  refine congrArg Host.Outcome.next ?_
  have hlisted : readNoticeFrame.listed [] + extra = 1 + extra := rfl
  simp only [runFrame, hidle, Bool.false_eq_true, if_false, hlisted]
  rw [hf, closeFrame_of_frame rfl hc rfl, readNoticeFrame_effect hlatch]
  have hsame : (s.amid s.noticeReply (1 + extra) f).port.autoclear = s.port.autoclear := rfl
  rw [hsame]
  split <;> rfl

/-- Clearing every flag that is set clears them all, with the side states of those that were set (R36, R180). -/
theorem State.clearNotices_all (s : State) :
    s.clearNotices s.notices.flags = { s with
      notices := { s.notices with
        flags := 0
        completeness := if s.noticeSet .snapDone then .none else s.notices.completeness }
      path := { s.path with clashReported := if s.noticeSet .clash then false else s.path.clashReported } } := by
  simp only [State.clearNotices, BitVec.and_self, BitVec.and_not_self]
  rfl

/-- A byte of READ_NOTICE taken as the command byte fixes the answer and touches the port alone. -/
theorem readNotice_commandByte {s : State} {f : Frame} (hbetween : s.betweenBytes) (hf : s.port.frame = some f)
    (hc : f.command = none) : ∃ t g, exec (.readNotice .byte) s = .next t ∧ t.port.frame = some g ∧
      g.command = some 0x02 ∧ g.latch = s.noticeLatch ∧ t.notices = s.notices := by
  have hfits : readNoticeFrame.fits s.port = true := by simp [FrameSpec.fits, hf, hc]
  have hexchanged := exchangeByte_eq [] hbetween hfits
    (show readNoticeFrame.completes s.port = true by simp [FrameSpec.completes, readNoticeFrame])
  have hframe : (endByte readNoticeFrame [] s).port.frame =
      some { f with command := some 0x02, latch := s.noticeLatch } := by
    simp [endByte, hf, receiveByte_readNotice hc]
  obtain ⟨hcommand, _, hlatch⟩ := nextByte_keeps readNoticeFrame (endByte readNoticeFrame [] s)
    { f with command := some 0x02, latch := s.noticeLatch }
  refine ⟨_, _, congrArg Host.Outcome.next hexchanged, by rw [beginByte, hframe], hcommand, hlatch, ?_⟩
  rw [beginByte, hframe]
  rfl

/-- Settles O14: the whole frame by `readNotice_whole`, the command byte by `readNotice_commandByte`, the rise by the
effect on what was fixed. -/
theorem readNoticeReturnsAndAutoclears : Obligations.ReadNoticeReturnsAndAutoclears := by
  refine ⟨fun extra s hidle => ⟨_, readNotice_whole hidle extra, ?flags, ?rest⟩,
    fun s f hbetween hf hc => readNotice_commandByte hbetween hf hc, fun s f latched last c hf hc hlatch => ?rise⟩
  case flags =>
    cases s.port.autoclear <;> simp [State.clearNotices_all]
  case rest =>
    cases hauto : s.port.autoclear with
    | true => simp only [if_true, State.clearNotices_all, true_and]; rfl
    | false => simp only [Bool.false_eq_true, if_false, false_and]; rfl
  case rise =>
    refine ⟨_, congrArg Host.Outcome.next (runFrame_finish hf hc rfl []), ?_, ?_⟩ <;>
      rw [readNoticeFrame_effect hlatch]
    · rfl
    · cases s.port.autoclear <;> rfl

end Sys2Proof.Machine
end

section
/-! The rows of Table 10-3: what the bytes of a frame spell, and what the frame of each command code has in common with
the others (R172, R173, R176, R177). -/

namespace Sys2Proof.Machine

/-! ### The bytes of a frame -/

/-- The bytes after the command byte that the command of this code takes (Table 10-3, R173): none where it has no
operands, and the one byte of the continue form of START_DRAIN (R133). -/
def takenOperands (code : Byte) (ops : List Byte) : List Byte :=
  if code = 0x22 ∧ ops.head? = some 0xFF then [0xFF] else if operandBytes code = 0 then [] else ops

theorem takenOperands_continue {ops : List Byte} (h : ops.head? = some 0xFF) : takenOperands 0x22 ops = [0xFF] :=
  if_pos ⟨rfl, h⟩

theorem takenOperands_startDrain {ops : List Byte} (h : ops.head? ≠ some 0xFF) : takenOperands 0x22 ops = ops :=
  if_neg fun hc => h hc.2

theorem takenOperands_unknown {code : Byte} (h : code ∉ knownCodes) (ops : List Byte) : takenOperands code ops = [] := by
  have hne : code ≠ 0x22 := by
    rintro rfl
    exact h (by decide)
  rw [takenOperands, if_neg fun hc => hne hc.1, if_pos (operandBytes_unknown h)]

theorem takenOperands_isPrefix (code : Byte) (ops : List Byte) : takenOperands code ops <+: ops := by
  unfold takenOperands
  split
  next h =>
    obtain ⟨rest, rfl⟩ := exists_cons_of_head h.2
    exact ⟨rest, rfl⟩
  next =>
    split
    · exact ⟨ops, rfl⟩
    · exact ⟨[], List.append_nil ops⟩

/-- The operands a command judges are among the bytes it takes. -/
theorem takenOperands_getD {code : Byte} {n : Nat} (ops : List Byte) (h : n < operandBytes code) :
    (takenOperands code ops).getD n 0 = ops.getD n 0 := by
  unfold takenOperands
  split
  next hc =>
    obtain ⟨rfl, hhead⟩ := hc
    obtain ⟨rest, rfl⟩ := exists_cons_of_head hhead
    obtain rfl : n = 0 := Nat.lt_one_iff.1 h
    rfl
  next =>
    split
    next hnone => omega
    next => rfl

/-- A frame with a command byte spells a well-formed command, whose own bytes are the command byte and the bytes it
takes, and spell it again. -/
theorem decodeFrame_spells (code : Byte) (ops : List Byte) (act : FrameAct) :
    (decodeFrame (code :: ops) act).wellFormed = true ∧
      encodeFrame (decodeFrame (code :: ops) act) = some (code :: takenOperands code ops, act) ∧
      decodeFrame (code :: takenOperands code ops) act = decodeFrame (code :: ops) act := by
  by_cases hk : code ∈ knownCodes
  · rcases knownCodes_cases hk with rfl | rfl | rfl | rfl | rfl | rfl | rfl | rfl | rfl | rfl | rfl | rfl | rfl |
      rfl | rfl | rfl | rfl | rfl | rfl | rfl | rfl | rfl | rfl | rfl | rfl | rfl | rfl | rfl | rfl | rfl | rfl
    case inr.inr.inr.inr.inr.inr.inr.inr.inr.inr.inr.inr.inr.inr.inr.inr.inl =>
      by_cases hcontinue : ops.head? = some 0xFF
      · rw [takenOperands_continue hcontinue, decodeFrame_startDrainContinue hcontinue]
        exact ⟨rfl, rfl, rfl⟩
      · rw [takenOperands_startDrain hcontinue, decodeFrame_startDrain hcontinue]
        exact ⟨decide_eq_true hcontinue, rfl, rfl⟩
    all_goals exact ⟨rfl, rfl, rfl⟩
  · rw [takenOperands_unknown hk, decodeFrame_unknown hk, decodeFrame_unknown hk]
    exact ⟨by simpa [Instr.wellFormed] using hk, rfl, rfl⟩

/-- Settles O3, by whether the frame has a command byte. -/
theorem frameDecodeAndEncodeAgree : Obligations.FrameDecodeAndEncodeAgree := by
  intro bytes act
  cases bytes with
  | nil => exact ⟨rfl, [], rfl, ⟨[], rfl⟩, rfl⟩
  | cons code ops =>
    obtain ⟨hwellFormed, hencode, hagain⟩ := decodeFrame_spells code ops act
    obtain ⟨ignored, htaken⟩ := takenOperands_isPrefix code ops
    exact ⟨hwellFormed, _, hencode, ⟨ignored, congrArg (code :: ·) htaken⟩, hagain⟩

/-! ### What an effect refuses -/

/-- The answer of an effect on `s` changes `s` only with the result OK (R176). -/
def State.Judged (s : State) (answer : State × ResultCode) : Prop := answer.2 ≠ .ok → answer.1 = s

@[simp] theorem State.judged_refused (s : State) (result : ResultCode) : s.Judged (s, result) := fun _ => rfl

@[simp] theorem State.judged_accepted (s t : State) : s.Judged (t, .ok) := fun h => absurd rfl h

/-- An effect that judges `n` operand bytes: with fewer it answers SHORT_FRAME, and refusing it changes nothing
(R173, R176). -/
structure JudgesOperands (n : Nat) (effect : List Byte → State → State × ResultCode) : Prop where
  judged : ∀ ops s, State.Judged s (effect ops s)
  short : ∀ ops s, ops.length < n → effect ops s = (s, .shortFrame)

/-- An effect that has no operands. -/
theorem JudgesOperands.bare {effect : List Byte → State → State × ResultCode}
    (h : ∀ ops s, State.Judged s (effect ops s)) : JudgesOperands 0 effect :=
  ⟨h, fun _ _ hlength => absurd hlength (Nat.not_lt_zero _)⟩

@[simp] theorem State.regionCommand_judged (s : State) (index : Byte) (allowed : Region → Bool)
    (effect : Fin 32 → State) : s.Judged (s.regionCommand index allowed effect) := by
  unfold State.regionCommand
  (repeat' split) <;> simp

theorem stagedConfig_short {ops : List Byte} (h : ops.length < 17) : stagedConfig ops = none := by
  unfold stagedConfig
  split
  · simp only [List.length_cons] at h
    omega
  · rfl

/-- No operand byte has been received. -/
theorem eq_nil_of_length_lt_one {ops : List Byte} (h : ops.length < 1) : ops = [] :=
  List.length_eq_zero_iff.1 (Nat.lt_one_iff.1 h)

theorem clearNoticeEffect_judges : JudgesOperands 2 clearNoticeEffect where
  judged ops s := by
    unfold clearNoticeEffect
    split <;> simp
  short ops s h := by
    unfold clearNoticeEffect
    split
    · simp only [List.length_cons] at h
      omega
    · rfl

theorem setNoticeMaskEffect_judges : JudgesOperands 2 setNoticeMaskEffect where
  judged ops s := by
    unfold setNoticeMaskEffect
    split <;> simp
  short ops s h := by
    unfold setNoticeMaskEffect
    split
    · simp only [List.length_cons] at h
      omega
    · rfl

theorem stageRegionEffect_judges : JudgesOperands 17 stageRegionEffect where
  judged ops s := by
    unfold stageRegionEffect
    split <;> simp
  short ops s h := by rw [stageRegionEffect, stagedConfig_short h]

theorem commitRegionEffect_judges : JudgesOperands 1 commitRegionEffect where
  judged ops s := by
    unfold commitRegionEffect
    (repeat' split) <;> simp
  short ops s h := by rw [eq_nil_of_length_lt_one h]; rfl

theorem enableRegionEffect_judges : JudgesOperands 1 enableRegionEffect where
  judged ops s := by
    unfold enableRegionEffect
    split <;> simp
  short ops s h := by rw [eq_nil_of_length_lt_one h]; rfl

theorem disableRegionEffect_judges : JudgesOperands 1 disableRegionEffect where
  judged ops s := by
    unfold disableRegionEffect
    split <;> simp
  short ops s h := by rw [eq_nil_of_length_lt_one h]; rfl

theorem releaseRegionEffect_judges : JudgesOperands 1 releaseRegionEffect where
  judged ops s := by
    unfold releaseRegionEffect
    split <;> simp
  short ops s h := by rw [eq_nil_of_length_lt_one h]; rfl

theorem setSenseEffect_judges : JudgesOperands 5 setSenseEffect where
  judged ops s := by
    unfold setSenseEffect
    split <;> simp
  short ops s h := by
    unfold setSenseEffect
    split
    · simp only [List.length_cons] at h
      omega
    · rfl

theorem clearTripEffect_judges : JudgesOperands 1 clearTripEffect where
  judged ops s := by
    unfold clearTripEffect
    split <;> simp
  short ops s h := by rw [eq_nil_of_length_lt_one h]; rfl

theorem clearCountsEffect_judges : JudgesOperands 1 clearCountsEffect where
  judged ops s := by
    unfold clearCountsEffect
    split <;> simp
  short ops s h := by rw [eq_nil_of_length_lt_one h]; rfl

theorem setThresholdsEffect_judges : JudgesOperands 5 setThresholdsEffect where
  judged ops s := by
    unfold setThresholdsEffect
    (repeat' split) <;> simp
  short ops s h := by
    unfold setThresholdsEffect
    split
    · simp only [List.length_cons] at h
      omega
    · rfl

theorem loadLinkEffect_judges : JudgesOperands 8 loadLinkEffect where
  judged ops s := by
    unfold loadLinkEffect
    dsimp only
    (repeat' split) <;> simp
  short ops s h := by
    unfold loadLinkEffect
    split
    · simp only [List.length_cons] at h
      omega
    · rfl

theorem startDrainEffect_judges : JudgesOperands 1 startDrainEffect where
  judged ops s := by
    unfold startDrainEffect State.startDrainAt State.continueDrain
    (repeat' split) <;> simp
  short ops s h := by rw [eq_nil_of_length_lt_one h]; rfl

theorem stopDrainEffect_judges : JudgesOperands 0 stopDrainEffect :=
  .bare fun ops s => by
    unfold stopDrainEffect
    split <;> simp

theorem flushEffect_judges : JudgesOperands 0 flushEffect :=
  .bare fun ops s => by
    unfold flushEffect
    dsimp only
    (repeat' split) <;> simp

theorem abortDrainEffect_judges : JudgesOperands 0 abortDrainEffect :=
  .bare fun ops s => by
    unfold abortDrainEffect
    dsimp only
    (repeat' split) <;> simp

theorem discardQueueEffect_judges : JudgesOperands 0 discardQueueEffect :=
  .bare fun ops s => by
    unfold discardQueueEffect
    split <;> simp

theorem unloadLinkEffect_judges : JudgesOperands 1 unloadLinkEffect where
  judged ops s := by
    unfold unloadLinkEffect
    (repeat' split) <;> simp
  short ops s h := by rw [eq_nil_of_length_lt_one h]; rfl

theorem armEffect_judges : JudgesOperands 0 armEffect :=
  .bare fun ops s => by
    unfold armEffect
    (repeat' split) <;> simp

theorem disarmEffect_judges : JudgesOperands 0 disarmEffect :=
  .bare fun ops s => by
    unfold disarmEffect
    split <;> simp

theorem resumeEffect_judges : JudgesOperands 0 resumeEffect :=
  .bare fun ops s => by
    unfold resumeEffect
    (repeat' split) <;> simp

theorem setTimebaseEffect_judges : JudgesOperands 4 setTimebaseEffect where
  judged ops s := by
    unfold setTimebaseEffect
    (repeat' split) <;> simp
  short ops s h := by
    unfold setTimebaseEffect
    split
    · simp only [List.length_cons] at h
      omega
    · rfl

theorem setOptionsEffect_judges : JudgesOperands 3 setOptionsEffect where
  judged ops s := by
    unfold setOptionsEffect
    (repeat' split) <;> simp
  short ops s h := by
    unfold setOptionsEffect
    split
    · simp only [List.length_cons] at h
      omega
    · rfl

theorem setShadowPointerEffect_judges : JudgesOperands 2 setShadowPointerEffect where
  judged ops s := by
    unfold setShadowPointerEffect
    (repeat' split) <;> simp
  short ops s h := by
    unfold setShadowPointerEffect
    split
    · simp only [List.length_cons] at h
      omega
    · rfl

theorem resetEffect_judges : JudgesOperands 0 resetEffect := .bare fun _ s => s.judged_accepted _

/-! ### The frame of each command code -/

/-- The codes of the commands that return data (Table 10-3). -/
def readCodes : List Byte := [0x01, 0x02, 0x12, 0x21, 0x26, 0x43]

/-- What a frame fixes and sends rests on nothing of the serial lines and the frame in progress. -/
structure FrameSpec.LinesAside (spec : FrameSpec) : Prop where
  receive : ∀ {s u : State}, SerialOnly s u → ∀ ops, spec.receive ops u = spec.receive ops s
  unit : ∀ {s u : State}, SerialOnly s u → ∀ f, spec.unit f u = spec.unit f s

/-- The frame of the command of this code: only a read command sends data, missing operands are SHORT_FRAME, and a refused
command changes nothing (R173, R176, R177). -/
structure FrameSpec.Regular (spec : FrameSpec) (code : Byte) : Prop where
  command : spec.command = some code
  linesAside : spec.LinesAside
  silent : code ∉ readCodes → ∀ f s, spec.unit f s = none
  judged : ∀ f s, State.Judged s (spec.effect f s)
  short : ∀ f s, f.ops.length < operandBytes code → spec.effect f s = (s, .shortFrame)

theorem plainFrame_regular {code : Byte} {n : Nat} {effect : List Byte → State → State × ResultCode}
    (h : JudgesOperands n effect) (hn : operandBytes code = n) : (plainFrame code effect).Regular code where
  command := rfl
  linesAside := ⟨fun _ _ => rfl, fun _ _ => rfl⟩
  silent _ _ _ := rfl
  judged f s := h.judged f.ops s
  short f s hlength := h.short f.ops s (hn ▸ hlength)

theorem badCommandFrame_linesAside (command : Option Byte) : (badCommandFrame command).LinesAside :=
  ⟨fun _ _ => rfl, fun _ _ => rfl⟩

theorem badCommandFrame_regular {code : Byte} (h : code ∉ knownCodes) :
    (badCommandFrame (some code)).Regular code where
  command := rfl
  linesAside := badCommandFrame_linesAside _
  silent _ _ _ := rfl
  judged _ s := s.judged_refused _
  short _ _ hlength := absurd (operandBytes_unknown h ▸ hlength) (Nat.not_lt_zero _)

theorem readStatusFrame_regular : readStatusFrame.Regular 0x01 where
  command := rfl
  linesAside := ⟨fun _ _ => rfl, fun hu f => by rw [readStatusFrame_unit, readStatusFrame_unit, hu.statusBytes]⟩
  silent h := absurd (by decide) h
  judged _ s := s.judged_accepted s
  short _ _ hlength := absurd hlength (Nat.not_lt_zero _)

theorem readNoticeFrame_regular : readNoticeFrame.Regular 0x02 where
  command := rfl
  linesAside := ⟨fun hu _ => hu.noticeLatch, fun _ _ => rfl⟩
  silent h := absurd (by decide) h
  judged f s := by
    simp only [readNoticeFrame]
    split <;> simp
  short _ _ hlength := absurd hlength (Nat.not_lt_zero _)

theorem readRegionFrame_regular : readRegionFrame.Regular 0x12 where
  command := rfl
  linesAside := ⟨fun hu ops => by simp only [readRegionFrame, hu.regionData],
    fun hu f => by simp only [readRegionFrame, hu.regionData]⟩
  silent h := absurd (by decide) h
  judged f s := by
    simp only [readRegionFrame]
    split <;> simp
  short f s hlength := by simp only [readRegionFrame, eq_nil_of_length_lt_one hlength]

theorem readLinkFrame_regular : readLinkFrame.Regular 0x21 where
  command := rfl
  linesAside := ⟨fun _ _ => rfl, fun hu f => by simp only [readLinkFrame, hu.link]⟩
  silent h := absurd (by decide) h
  judged f s := by
    simp only [readLinkFrame]
    split <;> simp
  short f s hlength := by simp only [readLinkFrame, eq_nil_of_length_lt_one hlength]

theorem popEventFrame_regular : popEventFrame.Regular 0x26 where
  command := rfl
  linesAside := ⟨fun hu _ => hu.popLatch, fun _ _ => rfl⟩
  silent h := absurd (by decide) h
  judged f s := by
    simp only [popEventFrame]
    (repeat' split) <;> simp
  short _ _ hlength := absurd hlength (Nat.not_lt_zero _)

theorem readShadowFrame_regular : readShadowFrame.Regular 0x43 where
  command := rfl
  linesAside := ⟨fun _ _ => rfl, fun hu f => by rw [hu.eq_with_port]; rfl⟩
  silent h := absurd (by decide) h
  judged f s := by
    simp only [readShadowFrame]
    (repeat' split) <;> simp
  short f s hlength := by simp only [readShadowFrame, eq_nil_of_length_lt_one hlength]

/-- The bytes of a frame name the frame of their command byte, with the bytes that its command takes. -/
theorem exec_decodeFrame_cons (code : Byte) (ops : List Byte) : ∃ spec : FrameSpec, spec.Regular code ∧
    ∀ act s, exec (decodeFrame (code :: ops) act) s = .next (runFrame spec (takenOperands code ops) act s) := by
  by_cases hk : code ∈ knownCodes
  · rcases knownCodes_cases hk with rfl | rfl | rfl | rfl | rfl | rfl | rfl | rfl | rfl | rfl | rfl | rfl | rfl |
      rfl | rfl | rfl | rfl | rfl | rfl | rfl | rfl | rfl | rfl | rfl | rfl | rfl | rfl | rfl | rfl | rfl | rfl
    · exact ⟨_, readStatusFrame_regular, fun _ _ => rfl⟩
    · exact ⟨_, readNoticeFrame_regular, fun _ _ => rfl⟩
    · exact ⟨_, plainFrame_regular clearNoticeEffect_judges rfl, fun _ _ => rfl⟩
    · exact ⟨_, plainFrame_regular setNoticeMaskEffect_judges rfl, fun _ _ => rfl⟩
    · exact ⟨_, plainFrame_regular stageRegionEffect_judges rfl, fun _ _ => rfl⟩
    · exact ⟨_, plainFrame_regular commitRegionEffect_judges rfl, fun _ _ => rfl⟩
    · exact ⟨_, readRegionFrame_regular, fun _ _ => rfl⟩
    · exact ⟨_, plainFrame_regular enableRegionEffect_judges rfl, fun _ _ => rfl⟩
    · exact ⟨_, plainFrame_regular disableRegionEffect_judges rfl, fun _ _ => rfl⟩
    · exact ⟨_, plainFrame_regular releaseRegionEffect_judges rfl, fun _ _ => rfl⟩
    · exact ⟨_, plainFrame_regular setSenseEffect_judges rfl, fun _ _ => rfl⟩
    · exact ⟨_, plainFrame_regular clearTripEffect_judges rfl, fun _ _ => rfl⟩
    · exact ⟨_, plainFrame_regular clearCountsEffect_judges rfl, fun _ _ => rfl⟩
    · exact ⟨_, plainFrame_regular setThresholdsEffect_judges rfl, fun _ _ => rfl⟩
    · exact ⟨_, plainFrame_regular loadLinkEffect_judges rfl, fun _ _ => rfl⟩
    · exact ⟨_, readLinkFrame_regular, fun _ _ => rfl⟩
    · refine ⟨_, plainFrame_regular startDrainEffect_judges rfl, fun act s => ?_⟩
      by_cases hcontinue : ops.head? = some 0xFF
      · rw [takenOperands_continue hcontinue, decodeFrame_startDrainContinue hcontinue]
        rfl
      · rw [takenOperands_startDrain hcontinue, decodeFrame_startDrain hcontinue]
        rfl
    · exact ⟨_, plainFrame_regular stopDrainEffect_judges rfl, fun _ _ => rfl⟩
    · exact ⟨_, plainFrame_regular flushEffect_judges rfl, fun _ _ => rfl⟩
    · exact ⟨_, plainFrame_regular abortDrainEffect_judges rfl, fun _ _ => rfl⟩
    · exact ⟨_, popEventFrame_regular, fun _ _ => rfl⟩
    · exact ⟨_, plainFrame_regular discardQueueEffect_judges rfl, fun _ _ => rfl⟩
    · exact ⟨_, plainFrame_regular unloadLinkEffect_judges rfl, fun _ _ => rfl⟩
    · exact ⟨_, plainFrame_regular armEffect_judges rfl, fun _ _ => rfl⟩
    · exact ⟨_, plainFrame_regular disarmEffect_judges rfl, fun _ _ => rfl⟩
    · exact ⟨_, plainFrame_regular resumeEffect_judges rfl, fun _ _ => rfl⟩
    · exact ⟨_, plainFrame_regular setTimebaseEffect_judges rfl, fun _ _ => rfl⟩
    · exact ⟨_, plainFrame_regular setOptionsEffect_judges rfl, fun _ _ => rfl⟩
    · exact ⟨_, plainFrame_regular setShadowPointerEffect_judges rfl, fun _ _ => rfl⟩
    · exact ⟨_, readShadowFrame_regular, fun _ _ => rfl⟩
    · exact ⟨_, plainFrame_regular resetEffect_judges rfl, fun _ _ => rfl⟩
  · refine ⟨_, badCommandFrame_regular hk, fun act s => ?_⟩
    have hunknown : ¬(some code).any knownCodes.contains = true := by simpa using hk
    rw [decodeFrame_unknown hk, takenOperands_unknown hk]
    exact if_neg hunknown

end Sys2Proof.Machine
end

section
/-! Frames byte by byte and bit by bit: what they send and take (R172 to R176), and that the parts make the whole. -/

namespace Sys2Proof.Machine

/-! ### Frames that change nothing -/

/-- CFG_CS# rises with a result other than OK: only the frame and the result have changed (R176). -/
theorem closeFrame_of_refused {spec : FrameSpec} (h : ∀ f s, State.Judged s (spec.effect f s)) {s : State}
    (hresult : (closeFrame spec s).port.lastResult ≠ .ok) :
    closeFrame spec s = { s with port := { s.port with
      selected := (closeFrame spec s).port.selected
      frame := (closeFrame spec s).port.frame
      lastResult := (closeFrame spec s).port.lastResult } } := by
  cases hf : s.port.frame with
  | none =>
    rw [closeFrame_of_none hf]
  | some f =>
    cases hc : f.command with
    | none =>
      rw [closeFrame_of_incomplete hf hc]
      rfl
    | some code =>
      by_cases hnamed : spec.command = some code
      · rw [closeFrame_of_frame hf hc hnamed] at hresult ⊢
        rw [h f s hresult]
        rfl
      · rw [closeFrame_of_other hf hc hnamed]

/-- Settles O11: every command's effect changes the state only with the result OK. -/
theorem refusedFramesChangeNothing : Obligations.RefusedFramesChangeNothing := by
  intro bytes s t hexec hresult
  have hframe : ∃ spec ops, (∀ f u, State.Judged u (spec.effect f u)) ∧
      exec (decodeFrame bytes .finish) s = .next (runFrame spec ops .finish s) := by
    cases bytes with
    | nil => exact ⟨badCommandFrame none, [], fun _ u => u.judged_refused _, rfl⟩
    | cons code ops =>
      obtain ⟨spec, hregular, hrun⟩ := exec_decodeFrame_cons code ops
      exact ⟨spec, _, hregular.judged, hrun .finish s⟩
  obtain ⟨spec, ops, hjudged, hrun⟩ := hframe
  obtain rfl : runFrame spec ops .finish s = t := Host.Outcome.next.inj (hrun.symm.trans hexec)
  exact closeFrame_of_refused hjudged hresult

/-- A command that lacks operand bytes (R173). -/
theorem FrameSpec.Regular.finish_short {spec : FrameSpec} {code : Byte} (h : spec.Regular code) {ops : List Byte}
    {s : State} (hrecv : s.receiving code ops) (hshort : ops.length < operandBytes code) (given : List Byte) :
    runFrame spec given .finish s = s.frameEnded .shortFrame := by
  obtain ⟨f, hf, hc, rfl⟩ := hrecv
  rw [runFrame_finish hf hc h.command, h.short f s hshort]
  rfl

/-- A command byte that is no code of Table 10-3 names its own frame. -/
theorem exec_badCommand {code : Byte} (h : code ∉ knownCodes) (act : FrameAct) (s : State) :
    exec (.badCommand (some code) act) s = .next (runFrame (badCommandFrame (some code)) [] act s) :=
  if_neg (by simpa using h)

/-- A frame of no command sends no data. -/
theorem badCommandFrame_answers (s : State) (code first : Byte) :
    AnswersUnits (badCommandFrame (some code)) s s code first [] .badCommand where
  command := rfl
  nonempty := by simp
  answered _ _ _ _ := rfl
  effect _ _ hu _ := congrArg (·, ResultCode.badCommand) hu.eq_with_port

/-- The whole frame of no command: status byte, result code, 0x00 (R173, R176). -/
theorem badCommand_whole {s : State} (hidle : s.port.selected = false) (code : Byte) (extra : Nat) :
    runFrame (badCommandFrame (some code)) [] (.whole extra) s =
      { s with port := s.exchanged [] (1 + extra) .badCommand } := by
  cases extra with
  | zero =>
    simp only [runFrame, hidle, Bool.false_eq_true, if_false]
    rw [show (badCommandFrame (some code)).listed [] + 0 = 1 from rfl, exchangeBytes_one rfl [] [] s,
      closeFrame_of_frame rfl (receiveByte_command rfl [] _ (.inl rfl)) rfl]
    rfl
  | succ n =>
    rw [(badCommandFrame_answers s code 0).whole hidle rfl (show 1 + 0 + (n + 1) = n + 2 by omega),
      show 1 + (n + 1) = n + 2 by omega, List.flatten_nil]

/-- The row of an incomplete command byte takes no byte. -/
theorem exchangeBytes_incomplete {spec : FrameSpec} (hc : spec.command = none) {s : State} {f : Frame}
    (hf : s.port.frame = some f) (ops : List Byte) (n : Nat) : exchangeBytes spec ops n s = s := by
  have hbyte : exchangeByte spec ops s = s := by
    simp [exchangeByte, FrameSpec.completes, hf, hc]
  induction n with
  | zero => rfl
  | succ n ih => rw [exchangeBytes, hbyte, ih]

/-- Settles O10: each frame by its rise, the whole ones by the bytes they send. -/
theorem framesWithoutEffect : Obligations.FramesWithoutEffect := by
  refine ⟨fun code ops s hshort hrecv => ?short, fun code ops s hk hrecv => ?bad, fun code extra s hk hidle => ?badWhole,
    fun bytes f s hf hc => ?incomplete, fun extra s hidle => ?incompleteWhole⟩
  case short =>
    obtain ⟨spec, hregular, hrun⟩ := exec_decodeFrame_cons code ops
    exact (hrun .finish s).trans (congrArg Host.Outcome.next (hregular.finish_short hrecv hshort _))
  case bad =>
    obtain ⟨f, hf, hc, -⟩ := hrecv
    exact (exec_badCommand hk .finish s).trans (congrArg Host.Outcome.next (runFrame_finish hf hc rfl []))
  case badWhole =>
    exact (exec_badCommand hk (.whole extra) s).trans (congrArg Host.Outcome.next (badCommand_whole hidle code extra))
  case incomplete =>
    obtain ⟨spec, ops, hrun⟩ := exec_decodeFrame bytes .finish
    exact (hrun s).trans (congrArg Host.Outcome.next (closeFrame_of_incomplete hf hc))
  case incompleteWhole =>
    refine congrArg Host.Outcome.next ?_
    simp only [runFrame, hidle, Bool.false_eq_true, if_false]
    rw [exchangeBytes_incomplete rfl rfl, closeFrame_of_incomplete rfl rfl]
    rfl

/-! ### Bytes in and out -/

section
variable {spec : FrameSpec} {code : Byte} (h : spec.Regular code) {s : State} {f : Frame} (hbetween : s.betweenBytes)
  (hf : s.port.frame = some f)
include h hbetween hf

/-- A byte of a frame of this command, or of one whose command byte has not been received. -/
theorem FrameSpec.Regular.byte (hc : f.command = none ∨ f.command = some code) (given : List Byte) :
    runFrame spec given .byte s =
      let next := nextByte spec (endByte spec given s) (receiveByte spec given s f)
      { s with port := { s.port with frame := some next.2, out := next.1, sent := s.port.sent ++ [s.port.out] } } := by
  have hfits : spec.fits s.port = true := by rcases hc with hc | hc <;> simp [FrameSpec.fits, hf, hc, h.command]
  have hcompletes : spec.completes s.port = true := by simp [FrameSpec.completes, h.command]
  rw [runFrame, exchangeByte_eq given hbetween hfits hcompletes]
  simp [beginByte, endByte, hf]

/-- The command byte has been received: the last result code follows (R172). -/
theorem FrameSpec.Regular.commandByte (hc : f.command = none) (hops : f.ops = []) (given : List Byte) :
    ∃ latch, runFrame spec given .byte s = { s with port := { s.port with
      frame := some { f with command := some code, latch := latch }
      out := s.port.lastResult.code
      sent := s.port.sent ++ [s.port.out] } } := by
  refine ⟨if spec.operands = 0 then spec.receive [] s else f.latch, ?_⟩
  rw [h.byte hbetween hf (.inl hc)]
  simp [receiveByte, hc, h.command, nextByte, hops, endByte]

/-- A byte after the command byte joins the operands received; without data 0x00 follows (R173, R177). -/
theorem FrameSpec.Regular.operandByte (hc : f.command = some code) (given : List Byte) :
    ∃ t g, runFrame spec given .byte s = t ∧
      t = { s with port := { s.port with frame := some g, out := t.port.out, sent := s.port.sent ++ [s.port.out] } } ∧
      g.command = some code ∧ g.ops = f.ops ++ [given.getD f.ops.length 0] ∧
      (f.data = [] → code ∉ readCodes → t.port.out = 0) := by
  have hreceived : (receiveByte spec given s f).ops = f.ops ++ [given.getD f.ops.length 0] ∧
      (receiveByte spec given s f).data = f.data := by
    simp [receiveByte, hc]
  obtain ⟨hops, hdata⟩ := hreceived
  obtain ⟨hcommand, hkept, -⟩ := nextByte_keeps spec (endByte spec given s) (receiveByte spec given s f)
  refine ⟨_, _, h.byte hbetween hf (.inr hc) given, rfl, hcommand.trans (receiveByte_command h.command given s (.inr hc)),
    hkept.trans hops, fun hnone hk => ?_⟩
  have hne := receiveByte_ops_ne_nil (spec := spec) given s hc
  exact congrArg Prod.fst (nextByte_of_none hne (hdata.trans hnone) (h.silent hk _ _))

end

/-- Settles O8: the fall by `openFrame`, the command byte and the later ones by the frame of the command's code. -/
theorem frameOpensWithStatusAndResult : Obligations.FrameOpensWithStatusAndResult := by
  refine ⟨fun bytes s hidle => ?fall, fun code ops s f hbetween hf hc hops => ?command,
    fun code ops s f hbetween hf hc => ?later⟩
  case fall =>
    obtain ⟨spec, ops, hrun⟩ := exec_decodeFrame bytes .start
    rw [hrun s]
    simp only [runFrame, hidle, Bool.false_eq_true, if_false]
    rfl
  case command =>
    obtain ⟨spec, hregular, hrun⟩ := exec_decodeFrame_cons code ops
    obtain ⟨latch, hbyte⟩ := hregular.commandByte hbetween hf hc hops (takenOperands code ops)
    exact ⟨latch, (hrun .byte s).trans (congrArg Host.Outcome.next hbyte)⟩
  case later =>
    obtain ⟨spec, hregular, hrun⟩ := exec_decodeFrame_cons code ops
    obtain ⟨t, g, hbyte, hport, hcommand, hops, hsilent⟩ :=
      hregular.operandByte hbetween hf hc (takenOperands code ops)
    exact ⟨t, g, _, (hrun .byte s).trans (congrArg Host.Outcome.next hbyte), hport, hcommand, hops,
      takenOperands_getD ops, hsilent⟩

/-! ### The parts and the whole -/

theorem runCommands_cons_of_next {c : Instr} {s t : State} (h : exec c s = .next t) (rest : List Instr) :
    runCommands (c :: rest) s = runCommands rest t := by
  simp only [runCommands, h]

theorem runCommands_append_of_next {first : List Instr} {s t : State} (h : runCommands first s = .next t)
    (rest : List Instr) : runCommands (first ++ rest) s = runCommands rest t := by
  induction first generalizing s with
  | nil =>
    obtain rfl : s = t := Host.Outcome.next.inj h
    rfl
  | cons c more ih =>
    cases hc : exec c s with
    | next u =>
      rw [runCommands_cons_of_next hc] at h
      rw [List.cons_append, runCommands_cons_of_next hc, ih h]
    | fault r => exact nomatch r
    | refused r => simp [runCommands, hc] at h

/-- Bytes named by the row of one command, one after another. -/
theorem runCommands_bytes {spec : FrameSpec} {given : List Byte} {c : Instr}
    (h : ∀ s, exec c s = .next (exchangeByte spec given s)) (n : Nat) (s : State) :
    runCommands (List.replicate n c) s = .next (exchangeBytes spec given n s) := by
  induction n generalizing s with
  | zero => rfl
  | succ n ih => rw [List.replicate_succ, runCommands_cons_of_next (h s), ih, exchangeBytes]

/-- The fall, `n` bytes and the rise do what the whole frame does when it exchanges as much in its `n` bytes. -/
theorem runCommands_parts {bytes given : List Byte} {spec : FrameSpec} {s : State} {extra n : Nat}
    (hrun : ∀ act u, exec (decodeFrame bytes act) u = .next (runFrame spec given act u))
    (hidle : s.port.selected = false)
    (hcount : exchangeBytes spec given n (openFrame s) =
      exchangeBytes spec given (spec.listed given + extra) (openFrame s)) :
    runCommands (decodeFrame bytes .start :: (List.replicate n (decodeFrame bytes .byte) ++
      [decodeFrame bytes .finish])) s = exec (decodeFrame bytes (.whole extra)) s := by
  have hfall : exec (decodeFrame bytes .start) s = .next (openFrame s) := by
    rw [hrun, runFrame, hidle, if_neg Bool.false_ne_true]
  have hwhole : exec (decodeFrame bytes (.whole extra)) s =
      .next (closeFrame spec (exchangeBytes spec given n (openFrame s))) := by
    rw [hrun, runFrame, hidle, if_neg Bool.false_ne_true, hcount]
  rw [runCommands_cons_of_next hfall, runCommands_append_of_next (runCommands_bytes (hrun .byte) n (openFrame s)),
    runCommands_cons_of_next (hrun .finish _), hwhole]
  rfl

/-! ### The clock periods of a byte -/

/-- The state with CFG_CLK at this level and `k` bits of the present byte sampled. -/
def State.atBit (s : State) (clock : Bool) (k : Nat) : State :=
  { s with port := { s.port with clock := clock, bits := k } }

@[simp] theorem State.atBit_selected (s : State) (clock : Bool) (k : Nat) :
    (s.atBit clock k).port.selected = s.port.selected := rfl
@[simp] theorem State.atBit_clock (s : State) (clock : Bool) (k : Nat) : (s.atBit clock k).port.clock = clock := rfl
@[simp] theorem State.atBit_bits (s : State) (clock : Bool) (k : Nat) : (s.atBit clock k).port.bits = k := rfl

theorem State.atBit_serialOnly (s : State) (clock : Bool) (k : Nat) : SerialOnly s (s.atBit clock k) := rfl

theorem State.betweenBytes.atBit_zero {s : State} (h : s.betweenBytes) : s.atBit false 0 = s := by
  obtain ⟨-, hclock, hbits⟩ := h
  rw [State.atBit, ← hclock, ← hbits]

/-- With CFG_CLK low, CFG_DO has the bit after those sampled, most significant first (R172). -/
theorem State.cfgDo_atBit {s : State} (h : s.port.selected = true) (k : Nat) :
    (s.atBit false k).cfgDo = some (s.port.out.getLsbD (7 - k)) := by
  simp [State.cfgDo, h, State.atBit]

/-- The port stands in a frame that this row may shift on, or in the rest of a frame that a full reset has ended. -/
def FrameSpec.Shifts (spec : FrameSpec) (s : State) : Prop :=
  s.port.selected = true ∧
    ∀ f, s.port.frame = some f → spec.command.isSome = true ∧ (f.command = none ∨ f.command = spec.command)

/-- What a byte fixes and what follows it rest on nothing of the clock and the bit count. -/
theorem FrameSpec.LinesAside.endByte_atBit {spec : FrameSpec} (h : spec.LinesAside) (given : List Byte) (s : State)
    (clock : Bool) (k : Nat) : endByte spec given (s.atBit clock k) = (endByte spec given s).atBit clock k := by
  have hsame : receiveByte spec given (s.atBit clock k) = receiveByte spec given s := by
    funext f
    simp only [receiveByte, h.receive (s.atBit_serialOnly clock k)]
  simp only [endByte, hsame]
  rfl

theorem FrameSpec.LinesAside.beginByte_atBit {spec : FrameSpec} (h : spec.LinesAside) (s : State) (clock : Bool)
    (k : Nat) : beginByte spec (s.atBit clock k) = (beginByte spec s).atBit clock k := by
  have hsame : nextByte spec (s.atBit clock k) = nextByte spec s := by
    funext f
    simp only [nextByte, h.unit (s.atBit_serialOnly clock k)]
    rfl
  have hframe : (s.atBit clock k).port.frame = s.port.frame := rfl
  rw [beginByte, beginByte, hframe, hsame]
  cases s.port.frame <;> rfl

section
variable {spec : FrameSpec} {s : State} (h : spec.Shifts s)
include h

theorem FrameSpec.Shifts.atBit (clock : Bool) (k : Nat) : spec.Shifts (s.atBit clock k) := h

theorem FrameSpec.Shifts.fits : spec.fits s.port = true := by
  obtain ⟨-, hframe⟩ := h
  cases hf : s.port.frame with
  | none => simp [FrameSpec.fits, hf]
  | some f =>
    obtain ⟨-, hc | hc⟩ := hframe f hf <;> simp [FrameSpec.fits, hf, hc]

theorem FrameSpec.Shifts.completes : spec.completes s.port = true := by
  obtain ⟨-, hframe⟩ := h
  cases hf : s.port.frame with
  | none => simp [FrameSpec.completes, hf]
  | some f => simp [FrameSpec.completes, hframe f hf]

/-- After a byte the frame is still one that this row may shift on. -/
theorem FrameSpec.Shifts.endByte (given : List Byte) : spec.Shifts (endByte spec given s) := by
  obtain ⟨hselected, hframe⟩ := h
  refine ⟨hselected, fun g hg => ?_⟩
  obtain ⟨f, hf, rfl⟩ := Option.map_eq_some_iff.1 hg
  obtain ⟨hsome, hc⟩ := hframe f hf
  obtain ⟨code, hcode⟩ := Option.isSome_iff_exists.1 hsome
  exact ⟨hsome, .inr ((receiveByte_command hcode given s (hcode ▸ hc)).trans hcode.symm)⟩

/-- A rising edge is taken while CFG_CLK is low. -/
theorem FrameSpec.Shifts.rises (k : Nat) : ((s.atBit false k).port.selected && !(s.atBit false k).port.clock &&
    spec.fits (s.atBit false k).port) = true := by
  rw [(h.atBit false k).fits, State.atBit_selected, h.1, State.atBit_clock]
  rfl

/-- A falling edge is taken while CFG_CLK is high. -/
theorem FrameSpec.Shifts.falls (k : Nat) : ((s.atBit true k).port.selected && (s.atBit true k).port.clock &&
    spec.fits (s.atBit true k).port) = true := by
  rw [(h.atBit true k).fits, State.atBit_selected, h.1, State.atBit_clock]
  rfl

/-- A rising edge before the eighth samples a bit. -/
theorem FrameSpec.Shifts.riseClock_bit (given : List Byte) {k : Nat} (hk : k < 7) :
    riseClock spec given (s.atBit false k) = s.atBit true (k + 1) := by
  rw [riseClock, if_pos (h.rises k), State.atBit_bits, if_pos hk]
  rfl

/-- A falling edge within a byte shifts out a bit. -/
theorem FrameSpec.Shifts.fallClock_bit {k : Nat} (hk : k < 8) : fallClock spec (s.atBit true k) = s.atBit false k := by
  rw [fallClock, if_pos (h.falls k), State.atBit_bits, if_pos hk]
  rfl

/-- The eighth rising edge completes the byte. -/
theorem FrameSpec.Shifts.riseClock_last (hlines : spec.LinesAside) (given : List Byte) :
    riseClock spec given (s.atBit false 7) = (Machine.endByte spec given s).atBit true 8 := by
  rw [riseClock, if_pos (h.rises 7), State.atBit_bits, if_neg (Nat.lt_irrefl 7),
    if_pos (h.atBit false 7).completes, hlines.endByte_atBit]
  rfl

/-- The falling edge after it begins the next byte. -/
theorem FrameSpec.Shifts.fallClock_last (hlines : spec.LinesAside) :
    fallClock spec (s.atBit true 8) = (beginByte spec s).atBit false 0 := by
  rw [fallClock, if_pos (h.falls 8), State.atBit_bits, if_neg (Nat.lt_irrefl 8), hlines.beginByte_atBit]
  rfl

/-- Between two bytes, a byte is the eighth rising edge's and the next byte the falling edge's after it. -/
theorem FrameSpec.Shifts.exchangeByte (given : List Byte) (hbetween : s.betweenBytes) :
    exchangeByte spec given s = (beginByte spec (Machine.endByte spec given s)).atBit false 0 := by
  have hkept : (beginByte spec (Machine.endByte spec given s)).betweenBytes := by
    unfold beginByte
    split <;> exact hbetween
  rw [hkept.atBit_zero]
  exact exchangeByte_eq given hbetween h.fits h.completes

end

/-- The periods of CFG_CLK that the parts of a frame name. -/
def clockPeriods (bytes : List Byte) (n : Nat) : List Instr :=
  (List.replicate n [decodeFrame bytes .clockRises, decodeFrame bytes .clockFalls]).flatten

theorem clockPeriods_succ (bytes : List Byte) (n : Nat) : clockPeriods bytes (n + 1) =
    clockPeriods bytes n ++ [decodeFrame bytes .clockRises, decodeFrame bytes .clockFalls] := by
  simp [clockPeriods, List.replicate_succ']

section
variable {bytes given : List Byte} {spec : FrameSpec} {s : State}
  (hrun : ∀ act u, exec (decodeFrame bytes act) u = .next (runFrame spec given act u)) (h : spec.Shifts s)
  (hbetween : s.betweenBytes)
include hrun h hbetween

/-- Before the eighth period the bits are sampled one by one. -/
theorem runCommands_clockPeriods {n : Nat} (hn : n ≤ 7) :
    runCommands (clockPeriods bytes n) s = .next (s.atBit false n) := by
  induction n with
  | zero => exact congrArg Host.Outcome.next hbetween.atBit_zero.symm
  | succ n ih =>
    have hrise : exec (decodeFrame bytes .clockRises) (s.atBit false n) = .next (s.atBit true (n + 1)) :=
      (hrun .clockRises _).trans (congrArg Host.Outcome.next (h.riseClock_bit given (by omega)))
    have hfall : exec (decodeFrame bytes .clockFalls) (s.atBit true (n + 1)) = .next (s.atBit false (n + 1)) :=
      (hrun .clockFalls _).trans (congrArg Host.Outcome.next (h.fallClock_bit (by omega)))
    rw [clockPeriods_succ, runCommands_append_of_next (ih (by omega)), runCommands_cons_of_next hrise,
      runCommands_cons_of_next hfall]
    rfl

/-- Eight periods are a byte (R172). -/
theorem runCommands_clockPeriods_eight (hlines : spec.LinesAside) :
    runCommands (clockPeriods bytes 8) s = exec (decodeFrame bytes .byte) s := by
  have hrise := (hrun .clockRises (s.atBit false 7)).trans (congrArg Host.Outcome.next (h.riseClock_last hlines given))
  have hfall := (hrun .clockFalls ((endByte spec given s).atBit true 8)).trans
    (congrArg Host.Outcome.next ((h.endByte given).fallClock_last hlines))
  rw [clockPeriods_succ, runCommands_append_of_next (runCommands_clockPeriods hrun h hbetween (Nat.le_refl 7)),
    runCommands_cons_of_next hrise, runCommands_cons_of_next hfall, hrun, runFrame, h.exchangeByte given hbetween]
  rfl

end

/-- The frame that the bytes of a frame name, with the count of the bytes the host sends: none for an incomplete command
byte, whose row takes no byte. -/
theorem exec_decodeFrame_row (bytes : List Byte) : ∃ (spec : FrameSpec) (given : List Byte),
    (∀ act s, exec (decodeFrame bytes act) s = .next (runFrame spec given act s)) ∧ spec.LinesAside ∧
    spec.command = bytes.head? ∧
    ∀ act, ∃ sent, encodeFrame (decodeFrame bytes act) = some (sent, act) ∧ sent.length = spec.listed given ∧
      (sent = [] ↔ spec.command = none) := by
  cases bytes with
  | nil => exact ⟨badCommandFrame none, [], fun _ _ => rfl, badCommandFrame_linesAside _, rfl,
      fun _ => ⟨[], rfl, rfl, by simp [badCommandFrame]⟩⟩
  | cons code ops =>
    obtain ⟨spec, hregular, hrun⟩ := exec_decodeFrame_cons code ops
    refine ⟨spec, _, hrun, hregular.linesAside, hregular.command, fun act => ?_⟩
    obtain ⟨-, hencode, -⟩ := decodeFrame_spells code ops act
    refine ⟨_, hencode, ?_, by simp [hregular.command]⟩
    simp only [FrameSpec.listed, hregular.command, List.length_cons, Nat.add_comm]

/-- Settles O9: the parts by the bytes the host sends, the byte by its eight clock periods. -/
theorem framePartsMakeTheWhole : Obligations.FramePartsMakeTheWhole := by
  refine ⟨fun bytes sent extra s hidle hencode => ?parts, fun bytes s hbetween hframe => ?periods, fun s hidle => ?idle⟩
  case parts =>
    obtain ⟨spec, given, hrun, -, -, hsent⟩ := exec_decodeFrame_row bytes
    obtain ⟨sent', hencode', hlength, hnone⟩ := hsent (.whole extra)
    obtain rfl : sent' = sent := by simpa [hencode'] using hencode
    refine runCommands_parts hrun hidle ?_
    by_cases hempty : sent' = []
    · rw [exchangeBytes_incomplete (hnone.1 hempty) rfl, exchangeBytes_incomplete (hnone.1 hempty) rfl]
    · rw [if_neg hempty, hlength]
  case periods =>
    obtain ⟨spec, given, hrun, hlines, hcommand, -⟩ := exec_decodeFrame_row bytes
    have hselected := hbetween.1
    have hshifts : spec.Shifts s := by
      refine ⟨hselected, fun f hf => ?_⟩
      obtain ⟨hne, hc⟩ := hframe f hf
      rw [hcommand]
      exact ⟨List.isSome_head?.2 hne, hc⟩
    refine ⟨runCommands_clockPeriods_eight hrun hshifts hbetween hlines, fun n =>
      ⟨_, runCommands_clockPeriods hrun hshifts hbetween (Nat.le_of_lt_succ n.isLt), State.cfgDo_atBit hselected n⟩⟩
  case idle => rw [State.cfgDo, hidle, if_neg Bool.false_ne_true]

end Sys2Proof.Machine
end

section
/-! The queue of commands: a step takes its front command, and no command's meaning touches it. Every operation's share
of this stands in Laws/Ops; here are the effects of the frames, the events, and the case split over the commands. -/

namespace Sys2Proof.Machine

/-- Settles O1, by the two cases of `step`. -/
theorem stepRunsFrontCommand : Obligations.StepRunsFrontCommand := by
  refine ⟨fun c rest s => rfl, fun s hempty => ?idles⟩
  case idles => rw [step, hempty]

/-- The two states agree in the queue of commands. -/
def State.SamePending (s t : State) : Prop := t.pending = s.pending

theorem Answers.samePending {s t : State} (h : t.pending = s.pending) : Answers (.next t) s.SamePending := .next h

/-- A command that is not taken (log entry 2). -/
theorem Answers.notTaken (s : State) : Answers (.next s) s.SamePending := .samePending rfl

/-! ### Frames -/

/-- A frame leaves the queue of commands alone where the effect of its command does. -/
theorem runFrame_samePending {spec : FrameSpec} (h : ∀ f u, (spec.effect f u).1.pending = u.pending)
    (ops : List Byte) (act : FrameAct) (s : State) : Answers (.next (runFrame spec ops act s)) s.SamePending := by
  rcases runFrame_cases spec ops act s with ⟨p, hp⟩ | ⟨f, p, p', hp⟩
  · rw [hp]
    exact .samePending rfl
  · rw [hp]
    exact .samePending (h f { s with port := p })

theorem plainFrame_samePending {code : Byte} {effect : List Byte → State → State × ResultCode}
    (h : ∀ ops u, (effect ops u).1.pending = u.pending) (ops : List Byte) (act : FrameAct) (s : State) :
    Answers (.next (runFrame (plainFrame code effect) ops act s)) s.SamePending :=
  runFrame_samePending (fun f u => h f.ops u) ops act s

/-! ### Resets -/

@[simp] theorem State.fullReset_pending (s : State) (cause : ResetCause) :
    (s.fullReset cause).pending = s.pending := by
  simp [State.fullReset]

@[simp] theorem State.partialReset_pending (s : State) : s.partialReset.pending = s.pending := by
  simp [State.partialReset]

/-! ### Notices, options, the Timebase and the shadow readout -/

theorem readNoticeFrame_pending (f : Frame) (s : State) : (readNoticeFrame.effect f s).1.pending = s.pending := by
  simp only [readNoticeFrame]
  (repeat' split) <;> simp

theorem clearNoticeEffect_pending (ops : List Byte) (s : State) : (clearNoticeEffect ops s).1.pending = s.pending := by
  unfold clearNoticeEffect
  split <;> simp

theorem setNoticeMaskEffect_pending (ops : List Byte) (s : State) :
    (setNoticeMaskEffect ops s).1.pending = s.pending := by
  unfold setNoticeMaskEffect
  split <;> rfl

theorem setOptionsEffect_pending (ops : List Byte) (s : State) : (setOptionsEffect ops s).1.pending = s.pending := by
  unfold setOptionsEffect
  (repeat' split) <;> rfl

theorem setTimebaseEffect_pending (ops : List Byte) (s : State) :
    (setTimebaseEffect ops s).1.pending = s.pending := by
  unfold setTimebaseEffect
  (repeat' split) <;> rfl

theorem setShadowPointerEffect_pending (ops : List Byte) (s : State) :
    (setShadowPointerEffect ops s).1.pending = s.pending := by
  unfold setShadowPointerEffect
  (repeat' split) <;> rfl

theorem readShadowFrame_pending (f : Frame) (s : State) : (readShadowFrame.effect f s).1.pending = s.pending := by
  simp only [readShadowFrame]
  (repeat' split) <;> rfl

/-! ### Regions -/

theorem stageRegionEffect_pending (ops : List Byte) (s : State) :
    (stageRegionEffect ops s).1.pending = s.pending := by
  unfold stageRegionEffect
  split <;> rfl

theorem commitRegionEffect_pending (ops : List Byte) (s : State) :
    (commitRegionEffect ops s).1.pending = s.pending := by
  unfold commitRegionEffect
  (repeat' split) <;> rfl

theorem readRegionFrame_pending (f : Frame) (s : State) : (readRegionFrame.effect f s).1.pending = s.pending := by
  simp only [readRegionFrame]
  split <;> rfl

/-- A region command, refused or not, leaves the queue of commands alone where its effect does. -/
theorem State.regionCommand_pending {s : State} (index : Byte) (allowed : Region → Bool) {effect : Fin 32 → State}
    (h : ∀ r, (effect r).pending = s.pending) : (s.regionCommand index allowed effect).1.pending = s.pending := by
  unfold State.regionCommand
  (repeat' split)
  · rfl
  · exact h _
  · rfl

@[simp] theorem State.enableRegion_pending (s : State) (r : Fin 32) : (s.enableRegion r).pending = s.pending := by
  unfold State.enableRegion
  (repeat' split) <;> simp

theorem enableRegionEffect_pending (ops : List Byte) (s : State) :
    (enableRegionEffect ops s).1.pending = s.pending := by
  unfold enableRegionEffect
  split
  · rfl
  · exact State.regionCommand_pending _ _ s.enableRegion_pending

@[simp] theorem State.disableRegion_pending (s : State) (r : Fin 32) : (s.disableRegion r).pending = s.pending := by
  unfold State.disableRegion
  dsimp only
  split <;> simp

theorem disableRegionEffect_pending (ops : List Byte) (s : State) :
    (disableRegionEffect ops s).1.pending = s.pending := by
  unfold disableRegionEffect
  split
  · rfl
  · exact State.regionCommand_pending _ _ s.disableRegion_pending

theorem releaseRegionEffect_pending (ops : List Byte) (s : State) :
    (releaseRegionEffect ops s).1.pending = s.pending := by
  unfold releaseRegionEffect
  split
  · rfl
  · exact State.regionCommand_pending _ _ fun _ => rfl

theorem setSenseEffect_pending (ops : List Byte) (s : State) : (setSenseEffect ops s).1.pending = s.pending := by
  unfold setSenseEffect
  split
  · exact State.regionCommand_pending _ _ fun _ => rfl
  · rfl

theorem clearTripEffect_pending (ops : List Byte) (s : State) : (clearTripEffect ops s).1.pending = s.pending := by
  unfold clearTripEffect
  split
  · rfl
  · exact State.regionCommand_pending _ _ fun _ => rfl

theorem clearCountsEffect_pending (ops : List Byte) (s : State) :
    (clearCountsEffect ops s).1.pending = s.pending := by
  unfold clearCountsEffect
  split
  · rfl
  · exact State.regionCommand_pending _ _ fun _ => rfl

@[simp] theorem State.setThresholds_pending (s : State) (alert trip : Word) (r : Fin 32) :
    (s.setThresholds alert trip r).pending = s.pending := by
  unfold State.setThresholds
  dsimp only
  split <;> simp

theorem setThresholdsEffect_pending (ops : List Byte) (s : State) :
    (setThresholdsEffect ops s).1.pending = s.pending := by
  unfold setThresholdsEffect
  (repeat' split) <;> simp

/-! ### The Chain Table, the Drain Engine and the Event Queue -/

theorem loadLinkEffect_pending (ops : List Byte) (s : State) : (loadLinkEffect ops s).1.pending = s.pending := by
  unfold loadLinkEffect
  dsimp only
  (repeat' split) <;> simp

theorem readLinkFrame_pending (f : Frame) (s : State) : (readLinkFrame.effect f s).1.pending = s.pending := by
  simp only [readLinkFrame]
  split <;> rfl

theorem unloadLinkEffect_pending (ops : List Byte) (s : State) : (unloadLinkEffect ops s).1.pending = s.pending := by
  unfold unloadLinkEffect
  (repeat' split) <;> rfl

@[simp] theorem State.startDrainAt_pending (s : State) (i : Fin 8) : (s.startDrainAt i).1.pending = s.pending := by
  unfold State.startDrainAt
  (repeat' split) <;> simp

@[simp] theorem State.continueDrain_pending (s : State) : s.continueDrain.1.pending = s.pending := by
  unfold State.continueDrain
  (repeat' split) <;> simp

theorem startDrainEffect_pending (ops : List Byte) (s : State) : (startDrainEffect ops s).1.pending = s.pending := by
  unfold startDrainEffect
  (repeat' split) <;> simp

theorem stopDrainEffect_pending (ops : List Byte) (s : State) : (stopDrainEffect ops s).1.pending = s.pending := by
  unfold stopDrainEffect
  split <;> simp

theorem flushEffect_pending (ops : List Byte) (s : State) : (flushEffect ops s).1.pending = s.pending := by
  unfold flushEffect
  dsimp only
  (repeat' split) <;> simp

theorem abortDrainEffect_pending (ops : List Byte) (s : State) : (abortDrainEffect ops s).1.pending = s.pending := by
  unfold abortDrainEffect
  dsimp only
  (repeat' split) <;> simp

theorem popEventFrame_pending (f : Frame) (s : State) : (popEventFrame.effect f s).1.pending = s.pending := by
  simp only [popEventFrame]
  (repeat' split) <;> simp

theorem discardQueueEffect_pending (ops : List Byte) (s : State) :
    (discardQueueEffect ops s).1.pending = s.pending := by
  unfold discardQueueEffect
  split <;> simp

/-! ### The monitor -/

theorem armEffect_pending (ops : List Byte) (s : State) : (armEffect ops s).1.pending = s.pending := by
  unfold armEffect
  (repeat' split) <;> simp [State.armMonitor]

theorem disarmEffect_pending (ops : List Byte) (s : State) : (disarmEffect ops s).1.pending = s.pending := by
  unfold disarmEffect
  split <;> simp [State.disarmMonitor]

theorem resumeEffect_pending (ops : List Byte) (s : State) : (resumeEffect ops s).1.pending = s.pending := by
  unfold resumeEffect
  (repeat' split) <;> rfl

@[simp] theorem State.startFreeze_pending (s : State) : s.startFreeze.pending = s.pending := by
  unfold State.startFreeze
  dsimp only
  split <;> simp

theorem execBadCommand_samePending (command : Option Byte) (act : FrameAct) (s : State) :
    Answers (execBadCommand command act s) s.SamePending := by
  unfold execBadCommand
  split
  · exact .notTaken s
  · exact runFrame_samePending (fun _ _ => rfl) [] act s

/-! ### The master bus and the Prime Engine -/

theorem execMasterCycleArrives_samePending (moe mwe : Bool) (addr : Addr) (enables : BitVec 2) (data : Word)
    (parity : BitVec 2) (s : State) :
    Answers (execMasterCycleArrives moe mwe addr enables data parity s) s.SamePending := by
  unfold execMasterCycleArrives
  split
  · exact .notTaken s
  · exact .samePending (by simp)

@[simp] theorem State.forward_pending (s : State) (c : MasterCycle) : (s.forward c).pending = s.pending := rfl

theorem execWriteGrant_samePending (s : State) : Answers (execWriteGrant s) s.SamePending := by
  unfold execWriteGrant
  split
  · exact .notTaken s
  · dsimp only
    (repeat' split) <;> exact .samePending (by simp)

theorem execReadGrant_samePending (s : State) : Answers (execReadGrant s) s.SamePending := by
  unfold execReadGrant
  split
  · exact .notTaken s
  · split
    · exact .notTaken s
    · exact .samePending (s.forward_pending _)

@[simp] theorem State.issuePrime_pending (s : State) (r : Fin 32) (k cursor : Nat) :
    (s.issuePrime r k cursor).pending = s.pending := rfl

theorem execPrimeGrant_samePending (s : State) : Answers (execPrimeGrant s) s.SamePending := by
  unfold execPrimeGrant
  split
  · (repeat' split) <;> exact .samePending (by simp)
  · exact .notTaken s

theorem execWriteCompletion_samePending (s : State) : Answers (execWriteCompletion s) s.SamePending := by
  unfold execWriteCompletion
  (repeat' split) <;> exact .samePending (by simp)

theorem execReadCompletion_samePending (data : Word) (parity : BitVec 2) (s : State) :
    Answers (execReadCompletion data parity s) s.SamePending := by
  unfold execReadCompletion
  (repeat' split) <;> exact .samePending (by simp)

theorem execPrimeReadCompletion_samePending (data : Word) (parity : BitVec 2) (s : State) :
    Answers (execPrimeReadCompletion data parity s) s.SamePending := by
  unfold execPrimeReadCompletion
  (repeat' split) <;> exact .samePending (by simp)

/-! ### The drain's events -/

theorem execDrainGrant_samePending (s : State) : Answers (execDrainGrant s) s.SamePending := by
  unfold execDrainGrant
  split
  · exact .samePending (by simp)
  · exact .notTaken s

/-- A write's SRDY that a reset abandoned frees the port (R44); any other leaves the queue of commands alone where its
row does. -/
theorem execAbandoned_samePending {s : State} {o : Host.Outcome State Fault Refusal} (h : Answers o s.SamePending) :
    Answers (if s.abandonedWrite then .next s.releasePort else o) s.SamePending := by
  split
  · exact .samePending (by simp)
  · exact h

theorem execDrainWriteCompletion_samePending (s : State) : Answers (execDrainWriteCompletion s) s.SamePending := by
  refine execAbandoned_samePending ?_
  (repeat' split) <;> exact .samePending (by simp)

theorem execRecordWriteCompletion_samePending (s : State) : Answers (execRecordWriteCompletion s) s.SamePending := by
  refine execAbandoned_samePending ?_
  (repeat' split) <;> exact .samePending (by simp)

theorem execPadWriteCompletion_samePending (s : State) : Answers (execPadWriteCompletion s) s.SamePending := by
  refine execAbandoned_samePending ?_
  (repeat' split) <;> exact .samePending (by simp)

theorem execBurstEnd_samePending (s : State) : Answers (execBurstEnd s) s.SamePending := by
  unfold execBurstEnd
  split
  · exact .samePending (by simp)
  · exact .notTaken s

theorem execFlushComplete_samePending (s : State) : Answers (execFlushComplete s) s.SamePending := by
  unfold execFlushComplete
  split
  · exact .samePending (by simp)
  · exact .notTaken s

theorem execAbortCarriedOut_samePending (s : State) : Answers (execAbortCarriedOut s) s.SamePending := by
  unfold execAbortCarriedOut
  split
  · exact .samePending (by simp)
  · exact .notTaken s

/-! ### The lines and the Timebase -/

theorem execSnapEdge_samePending (s : State) : Answers (execSnapEdge s) s.SamePending := by
  unfold execSnapEdge
  split
  · exact .notTaken s
  · dsimp only
    split <;> exact .samePending (by simp)

theorem execFullReset_samePending (s : State) : Answers (execFullReset s) s.SamePending := by
  unfold execFullReset
  split
  · exact .samePending (s.fullReset_pending .lineFull)
  · exact .notTaken s

theorem execPartialReset_samePending (s : State) : Answers (execPartialReset s) s.SamePending := by
  unfold execPartialReset
  split
  · exact .samePending s.partialReset_pending
  · exact .notTaken s

theorem execTclkPeriod_samePending (s : State) : Answers (execTclkPeriod s) s.SamePending := by
  unfold execTclkPeriod
  split
  · exact .samePending (by simp)
  · exact .samePending rfl

theorem execDecayTick_samePending (s : State) : Answers (execDecayTick s) s.SamePending := by
  unfold execDecayTick
  split
  · exact .samePending (by simp)
  · exact .notTaken s

theorem execSettleExpiry_samePending (s : State) : Answers (execSettleExpiry s) s.SamePending := by
  unfold execSettleExpiry
  split
  · exact .notTaken s
  · exact .samePending (by simp)

/-! ### Every command -/

theorem exec_samePending (c : Instr) (s : State) : Answers (exec c s) s.SamePending := by
  cases c with
  | readStatus act => exact runFrame_samePending (fun _ _ => rfl) [] act s
  | readNotice act => exact runFrame_samePending readNoticeFrame_pending [] act s
  | clearNotice ops act => exact plainFrame_samePending clearNoticeEffect_pending ops act s
  | setNoticeMask ops act => exact plainFrame_samePending setNoticeMaskEffect_pending ops act s
  | stageRegion ops act => exact plainFrame_samePending stageRegionEffect_pending ops act s
  | commitRegion ops act => exact plainFrame_samePending commitRegionEffect_pending ops act s
  | readRegion ops act => exact runFrame_samePending readRegionFrame_pending ops act s
  | enableRegion ops act => exact plainFrame_samePending enableRegionEffect_pending ops act s
  | disableRegion ops act => exact plainFrame_samePending disableRegionEffect_pending ops act s
  | releaseRegion ops act => exact plainFrame_samePending releaseRegionEffect_pending ops act s
  | setSense ops act => exact plainFrame_samePending setSenseEffect_pending ops act s
  | clearTrip ops act => exact plainFrame_samePending clearTripEffect_pending ops act s
  | clearCounts ops act => exact plainFrame_samePending clearCountsEffect_pending ops act s
  | setThresholds ops act => exact plainFrame_samePending setThresholdsEffect_pending ops act s
  | loadLink ops act => exact plainFrame_samePending loadLinkEffect_pending ops act s
  | readLink ops act => exact runFrame_samePending readLinkFrame_pending ops act s
  | startDrain ops act => exact plainFrame_samePending startDrainEffect_pending ops act s
  | startDrainContinue act => exact plainFrame_samePending startDrainEffect_pending [0xFF] act s
  | stopDrain act => exact plainFrame_samePending stopDrainEffect_pending [] act s
  | flush act => exact plainFrame_samePending flushEffect_pending [] act s
  | abortDrain act => exact plainFrame_samePending abortDrainEffect_pending [] act s
  | popEvent act => exact runFrame_samePending popEventFrame_pending [] act s
  | discardQueue act => exact plainFrame_samePending discardQueueEffect_pending [] act s
  | unloadLink ops act => exact plainFrame_samePending unloadLinkEffect_pending ops act s
  | arm act => exact plainFrame_samePending armEffect_pending [] act s
  | disarm act => exact plainFrame_samePending disarmEffect_pending [] act s
  | resume act => exact plainFrame_samePending resumeEffect_pending [] act s
  | setTimebase ops act => exact plainFrame_samePending setTimebaseEffect_pending ops act s
  | setOptions ops act => exact plainFrame_samePending setOptionsEffect_pending ops act s
  | setShadowPointer ops act => exact plainFrame_samePending setShadowPointerEffect_pending ops act s
  | readShadow ops act => exact runFrame_samePending readShadowFrame_pending ops act s
  | reset act => exact plainFrame_samePending (fun _ u => u.fullReset_pending .command) [] act s
  | badCommand command act => exact execBadCommand_samePending command act s
  | masterCycleArrives moe mwe addr enables data parity =>
    exact execMasterCycleArrives_samePending moe mwe addr enables data parity s
  | masterCycleWithdrawn | masterCycleEnds => exact .samePending (by simp)
  | writeGrant => exact execWriteGrant_samePending s
  | readGrant => exact execReadGrant_samePending s
  | primeGrant => exact execPrimeGrant_samePending s
  | drainGrant => exact execDrainGrant_samePending s
  | writeCompletion => exact execWriteCompletion_samePending s
  | readCompletion data parity => exact execReadCompletion_samePending data parity s
  | primeReadCompletion data parity => exact execPrimeReadCompletion_samePending data parity s
  | drainWriteCompletion => exact execDrainWriteCompletion_samePending s
  | recordWriteCompletion => exact execRecordWriteCompletion_samePending s
  | padWriteCompletion => exact execPadWriteCompletion_samePending s
  | burstEnd => exact execBurstEnd_samePending s
  | snapEdge => exact execSnapEdge_samePending s
  | snapLineFalls | rstLineRises => exact .samePending rfl
  | powerOnReset snapHigh rstHigh => exact .samePending (s.fullReset_pending .power)
  | fullReset => exact execFullReset_samePending s
  | partialReset => exact execPartialReset_samePending s
  | baseTick | lossPlacement => exact .samePending (by simp)
  | decayTick => exact execDecayTick_samePending s
  | settleExpiry => exact execSettleExpiry_samePending s
  | flushComplete => exact execFlushComplete_samePending s
  | abortCarriedOut => exact execAbortCarriedOut_samePending s
  | tclkPeriod => exact execTclkPeriod_samePending s

/-- Settles O2: the case split over the commands, `exec_samePending`. -/
theorem everyCommandAnswersNext : Obligations.EveryCommandAnswersNext := exec_samePending

end Sys2Proof.Machine
end
